-- ==== Sys2Proof/Word.lean ====
section
/-! DEFINITION. The cell types of the block (spec/00_scope.md R1, R4). -/

namespace Sys2Proof

/-- "Every data value the block stores, moves or computes on is a Byte, 8-bit unsigned" (R1). -/
abbrev Byte := BitVec 8

/-- One framebuffer cell holds 0 or 1 (R4, R16). -/
abbrev Bit := BitVec 1

end Sys2Proof
end

