-- ==== Sys2Proof/Config.lean ====
section
/-! DEFINITION. What the spec leaves to the host or the platform, as constants without a body: nothing can prove a value
of one. Every size the spec gives is fixed and stands as a number where it is used (spec/00_scope.md R1 to R5). -/

namespace Sys2Proof

/-- The `n`-th draw of RAND2, a free 2-bit input sampled only by `?` (10_state.md R23, 41_movement.md R70,
92_eei_decisions.md D8). DESIGN CHOICE, log entry 3. -/
opaque Config.rand2 : Nat → BitVec 2

/-- LOADER_LONG_LINE: the LOAD_WRITEs the host loader issues for a ROM file of at most 128 lines with a line of 255 or
more bytes (20_memory.md R48, 92_eei_decisions.md D12). Log entry 13. -/
opaque Config.loaderLongLine : List Byte → List Host.Cell

/-- LOADER_OVERFLOW: the LOAD_WRITEs the host loader issues for a ROM file of more than 128 lines
(20_memory.md R48, 92_eei_decisions.md D12). Log entry 13. -/
opaque Config.loaderOverflow : List Byte → List Host.Cell

end Sys2Proof
end

