-- ==== Sys2Proof/Syntax.lean ====
section
/-! DEFINITION. The instructions of the block: one constructor per row of spec/opcode_table.json (30_encoding.md R51).
Operands are implicit (R52), so only the default no-op carries data: the byte that stands in the cell. -/

namespace Sys2Proof

inductive Instr where
  | goEast        -- GO_EAST > (R66)
  | goWest        -- GO_WEST < (R67)
  | goSouth       -- GO_SOUTH v (R68)
  | goNorth       -- GO_NORTH ^ (R69)
  | goRandom      -- GO_RANDOM ? (R70)
  | add           -- ADD + (R72)
  | sub           -- SUB - (R73)
  | mul           -- MUL * (R74)
  | div           -- DIV / (R75)
  | mod           -- MOD % (R76)
  | not           -- NOT ! (R77)
  | greater       -- GREATER ` (R78)
  | ifVertical    -- IF_VERTICAL | (R79)
  | ifHorizontal  -- IF_HORIZONTAL _ (R80)
  | swap          -- SWAP \ (R81)
  | dup           -- DUP : (R82)
  | drop          -- DROP $ (R83)
  | get           -- GET g (R84)
  | getHex        -- GET_HEX G (R85)
  | put           -- PUT p (R86)
  | putHex        -- PUT_HEX P (R87)
  | skip          -- SKIP # (R88)
  | quote         -- QUOTE ' (R89)
  | jump          -- JUMP j (R90)
  | label         -- LABEL l (R91)
  | pixel         -- PIXEL . (R92)
  | sprite        -- SPRITE , (R94)
  | clear         -- CLEAR C (R95)
  | nopSpace      -- NOP_SPACE space (R96)
  | halt          -- HALT @ (R97)
  | pushHex0      -- PUSH_HEX_0 0 (R63)
  | pushHex1      -- PUSH_HEX_1 1 (R63)
  | pushHex2      -- PUSH_HEX_2 2 (R63)
  | pushHex3      -- PUSH_HEX_3 3 (R63)
  | pushHex4      -- PUSH_HEX_4 4 (R63)
  | pushHex5      -- PUSH_HEX_5 5 (R63)
  | pushHex6      -- PUSH_HEX_6 6 (R63)
  | pushHex7      -- PUSH_HEX_7 7 (R63)
  | pushHex8      -- PUSH_HEX_8 8 (R63)
  | pushHex9      -- PUSH_HEX_9 9 (R63)
  | pushHexA      -- PUSH_HEX_a a (R63)
  | pushHexB      -- PUSH_HEX_b b (R63)
  | pushHexC      -- PUSH_HEX_c c (R63)
  | pushHexD      -- PUSH_HEX_d d (R63)
  | pushHexE      -- PUSH_HEX_e e (R63)
  | pushHexF      -- PUSH_HEX_f f (R63)
  | nopDefault (b : Byte) -- NOP_DEFAULT, every byte that is neither an opcode nor a hex digit (R64)
deriving DecidableEq, Repr

end Sys2Proof
end

