-- ==== Sys2Proof/WellFormed.lean ====
section
/-! DEFINITION. Which terms of Instr stand for an instruction of the block: every one but a default no-op whose byte
belongs to another row of the opcode map (30_encoding.md R51). -/

namespace Sys2Proof

/-- The 210 default no-op bytes, in the ranges 30_encoding.md R51 lists them in. -/
def defaultRanges : List (Nat × Nat) :=
  [(0x00, 0x1F), (0x22, 0x22), (0x26, 0x26), (0x28, 0x28), (0x29, 0x29), (0x3B, 0x3B), (0x3D, 0x3D), (0x41, 0x41),
   (0x42, 0x42), (0x44, 0x46), (0x48, 0x4F), (0x51, 0x5B), (0x5D, 0x5D)]
  ++ [(0x68, 0x69), (0x6B, 0x6B), (0x6D, 0x6F), (0x71, 0x75), (0x77, 0x7B), (0x7D, 0xFF)]

/-- `b` is one of the 210 bytes whose instruction is the default no-op (R51, R64). -/
def isDefaultByte (b : Byte) : Bool :=
  defaultRanges.any fun r => decide (r.1 ≤ b.toNat) && decide (b.toNat ≤ r.2)

/-- The one check on a term of Instr: a default no-op carries a default byte. -/
def Instr.wellFormed : Instr → Bool
  | .nopDefault b => isDefaultByte b
  | .goEast => true
  | .goWest => true
  | .goSouth => true
  | .goNorth => true
  | .goRandom => true
  | .add => true
  | .sub => true
  | .mul => true
  | .div => true
  | .mod => true
  | .not => true
  | .greater => true
  | .ifVertical => true
  | .ifHorizontal => true
  | .swap => true
  | .dup => true
  | .drop => true
  | .get => true
  | .getHex => true
  | .put => true
  | .putHex => true
  | .skip => true
  | .quote => true
  | .jump => true
  | .label => true
  | .pixel => true
  | .sprite => true
  | .clear => true
  | .nopSpace => true
  | .halt => true
  | .pushHex0 => true
  | .pushHex1 => true
  | .pushHex2 => true
  | .pushHex3 => true
  | .pushHex4 => true
  | .pushHex5 => true
  | .pushHex6 => true
  | .pushHex7 => true
  | .pushHex8 => true
  | .pushHex9 => true
  | .pushHexA => true
  | .pushHexB => true
  | .pushHexC => true
  | .pushHexD => true
  | .pushHexE => true
  | .pushHexF => true

end Sys2Proof
end

