-- ==== Sys2Proof/Decode.lean ====
section
/-! DEFINITION. The decoder, total on every byte (30_encoding.md R49 to R54), the hex decoder it and four instructions
share (40_dispatch.md R61, R62), and the encoder. Byte values are ASCII, as the spec takes them (92_eei_decisions.md
D18, log entry 14). -/

namespace Sys2Proof

/-- HexDecode (40_dispatch.md R61). -/
def hexDecode (b : Byte) : Byte :=
  if 0x30 ≤ b.toNat ∧ b.toNat ≤ 0x39 then b - 0x30
  else if 0x61 ≤ b.toNat ∧ b.toNat ≤ 0x66 then b - 0x61 + 10
  else 0xFF

/-- IsHex (40_dispatch.md R62), by its two byte ranges. -/
def isHex (b : Byte) : Bool :=
  decide (0x30 ≤ b.toNat ∧ b.toNat ≤ 0x39) || decide (0x61 ≤ b.toNat ∧ b.toNat ≤ 0x66)

/-- The entries of the opcode table proper (30_encoding.md R51), family by family. -/
def opcodeRows : List (Byte × Instr) :=
  [(0x3E, .goEast), (0x3C, .goWest), (0x76, .goSouth), (0x5E, .goNorth),
    (0x3F, .goRandom)]
  ++ [(0x2B, .add), (0x2D, .sub), (0x2A, .mul), (0x2F, .div),
    (0x25, .mod)]
  ++ [(0x21, .not), (0x60, .greater), (0x7C, .ifVertical), (0x5F, .ifHorizontal),
    (0x5C, .swap)]
  ++ [(0x3A, .dup), (0x24, .drop)]
  ++ [(0x67, .get), (0x47, .getHex), (0x70, .put), (0x50, .putHex),
    (0x23, .skip), (0x27, .quote), (0x6A, .jump), (0x6C, .label)]
  ++ [(0x2E, .pixel), (0x2C, .sprite), (0x43, .clear)]
  ++ [(0x20, .nopSpace), (0x40, .halt)]

/-- The hex-literal pushes (30_encoding.md R51, 40_dispatch.md R63). -/
def hexRows : List (Byte × Instr) :=
  [(0x30, .pushHex0), (0x31, .pushHex1), (0x32, .pushHex2), (0x33, .pushHex3),
    (0x34, .pushHex4), (0x35, .pushHex5), (0x36, .pushHex6), (0x37, .pushHex7)]
  ++ [(0x38, .pushHex8), (0x39, .pushHex9), (0x61, .pushHexA), (0x62, .pushHexB),
    (0x63, .pushHexC), (0x64, .pushHexD), (0x65, .pushHexE), (0x66, .pushHexF)]

/-- The hex-literal push a hex digit spells (R63). -/
def hexPush (b : Byte) : Instr := (hexRows.lookup b).getD (.nopDefault b)

/-- "Look up b in the opcode table"; if it is not there and is a hex digit, the push; "any other byte → no-op"
(30_encoding.md R50). -/
def decodeByte (b : Byte) : Instr :=
  match opcodeRows.lookup b with
  | some i => i
  | none => if isHex b then hexPush b else .nopDefault b

/-- Why bytes are refused: no byte value is (R53), so only the absence of a byte. -/
inductive DecodeError where
  | noByte -- there is no byte to decode; safe, and no fetch meets it: a cell always holds one
deriving DecidableEq, Repr

/-- One instruction from a list of bytes, with the bytes after it: every instruction is one byte (R49). -/
def decode : List Byte → Except DecodeError (Instr × List Byte)
  | [] => .error .noByte
  | b :: rest => .ok (decodeByte b, rest)

/-- The `nbits` bits of `w` as bytes, bits 7..0 first. -/
def tableBytes (nbits w : Nat) : List Byte :=
  (List.range (nbits / 8)).map fun k => BitVec.ofNat 8 (w / 256 ^ k)

/-- What the decoder reads from the opcode table's word `w`; a byte after the first is a later cell and no part of the
instruction (R49; log entry 20). -/
def decodeTableWord (nbits w : Nat) : Option Instr :=
  match decode (tableBytes nbits w) with
  | .ok (i, _) => some i
  | .error _ => none

/-- The byte of an instruction, from the opcode map (30_encoding.md R51). -/
def encode : Instr → Byte
  | .goEast => 0x3E
  | .goWest => 0x3C
  | .goSouth => 0x76
  | .goNorth => 0x5E
  | .goRandom => 0x3F
  | .add => 0x2B
  | .sub => 0x2D
  | .mul => 0x2A
  | .div => 0x2F
  | .mod => 0x25
  | .not => 0x21
  | .greater => 0x60
  | .ifVertical => 0x7C
  | .ifHorizontal => 0x5F
  | .swap => 0x5C
  | .dup => 0x3A
  | .drop => 0x24
  | .get => 0x67
  | .getHex => 0x47
  | .put => 0x70
  | .putHex => 0x50
  | .skip => 0x23
  | .quote => 0x27
  | .jump => 0x6A
  | .label => 0x6C
  | .pixel => 0x2E
  | .sprite => 0x2C
  | .clear => 0x43
  | .nopSpace => 0x20
  | .halt => 0x40
  | .pushHex0 => 0x30
  | .pushHex1 => 0x31
  | .pushHex2 => 0x32
  | .pushHex3 => 0x33
  | .pushHex4 => 0x34
  | .pushHex5 => 0x35
  | .pushHex6 => 0x36
  | .pushHex7 => 0x37
  | .pushHex8 => 0x38
  | .pushHex9 => 0x39
  | .pushHexA => 0x61
  | .pushHexB => 0x62
  | .pushHexC => 0x63
  | .pushHexD => 0x64
  | .pushHexE => 0x65
  | .pushHexF => 0x66
  | .nopDefault b => b

end Sys2Proof
end

