-- ==== Sys2Proof/Machine/State.lean ====
section
/-! DEFINITION. The architectural state of the block (10_state.md R6), its reset (R27), and why a step can stop. -/

namespace Sys2Proof.Machine

/-- The four directions of DIR (R10); their 2-bit codes are `dirCode` in Ops. -/
inductive Dir where
  | east | west | south | north
deriving DecidableEq, Repr

/-- The values ERR takes (R20); their 2-bit codes are `errBits` in Flags, and code 3 is "never written by the block". -/
inductive ErrCode where
  | none | stackOverflow | divByZero
deriving DecidableEq, Repr

/-- One entry of the label index (R15): a valid bit and the coordinate of the label byte. -/
structure LabelEntry where
  valid : Bool
  x : Byte
  y : BitVec 7
deriving DecidableEq, Repr

/-- The grid as its listed cells: addresses strictly rising, and no entry 0, which is what an unlisted address reads as
(R27: "every cell 0"). -/
abbrev Memory := List Host.Cell

/-- The framebuffer in the same form: the listed cells are the lit ones. -/
abbrev Frame := List (Nat × Bit)

/-- The canonical form of a listed storage space of `size` cells whose unlisted cells read `d`. -/
abbrev cellsCanonical {α : Type} (size : Nat) (d : α) (m : List (Nat × α)) : Prop :=
  m.Pairwise (fun p q => p.1 < q.1) ∧ ∀ p ∈ m, p.1 < size ∧ p.2 ≠ d

/-- The grid's canonical form: 32,768 cells (00_scope.md R2). -/
abbrev Memory.wf (m : Memory) : Prop := cellsCanonical 32768 (0 : Byte) m

/-- The framebuffer's canonical form: 4,032 cells (00_scope.md R4). -/
abbrev Frame.wf (f : Frame) : Prop := cellsCanonical 4032 (0 : Bit) f

/-- The tuple of 10_state.md R6, and `draws`. -/
structure State where
  /-- IP.x (R7) -/
  ipX : Byte
  /-- IP.y (R8): 8 bits; the row it designates is `ipY mod 128` (R9) -/
  ipY : Byte
  /-- DIR (R10) -/
  dir : Dir
  /-- S (R11), TOP FIRST: the spec lists a stack bottom to top (log entry 1) -/
  stack : List Byte
  /-- M (20_memory.md R29 to R31) -/
  grid : Memory
  /-- Label (R15), by key byte -/
  labels : Vector LabelEntry 256
  /-- FB (R16) -/
  fb : Frame
  /-- SHUTDOWN (R17) -/
  shutdown : Bool
  /-- REDRAW (R18) -/
  redraw : Bool
  /-- GAMEPAD (R19) -/
  gamepad : BitVec 16
  /-- ERR (R20) -/
  err : ErrCode
  /-- OVF_SEEN (R21) -/
  ovfSeen : Bool
  /-- FAULT (R22) -/
  fault : Bool
  /-- The model's own: how many draws of RAND2 there have been, the argument of `Config.rand2` (log entry 3) -/
  draws : Nat
deriving DecidableEq, Repr

/-- An entry no scan has recorded: R27 leaves x and y "unspecified and unread"; DESIGN CHOICE 0, log entry 4. -/
def LabelEntry.empty : LabelEntry := { valid := false, x := 0, y := 0 }

/-- Every element at its value after INIT (R27). `draws` is the model's own, DESIGN CHOICE 0, log entry 3. -/
def State.reset : State where
  ipX := 0
  ipY := 0
  dir := .east
  stack := []
  grid := []
  labels := Vector.replicate 256 LabelEntry.empty
  fb := []
  shutdown := false
  redraw := false
  gamepad := 0
  err := .none
  ovfSeen := false
  fault := false
  draws := 0

/-- Why a step stops with a fault. -/
inductive Fault where
  /-- Raised by `step` (through `whenEnabled`) in a state with FAULT = 1, left by a DivByZero trap: "the model has no step
  from such a state, and the state is faulted, not final" (40_dispatch.md R57). Safe: log entry 8. -/
  | stopped
deriving DecidableEq, Repr

/-- Why a step or a host move is refused. -/
inductive Refusal where
  /-- Raised by an arm of `exec` for an instruction without a meaning: no arm does. Safe. -/
  | notModelled (mnemonic : String)
  /-- Raised by `step` (through `whenEnabled`) in a state with SHUTDOWN = 1 and FAULT = 0: "it is the end of a run"
  (40_dispatch.md R57, 60_exceptions.md R111). Safe: log entry 8. -/
  | shutDown
  /-- Raised by `hostMove` for a host operation at a time the host never issues it (60_exceptions.md R112,
  92_eei_decisions.md D14). Unsafe for a host that breaks its duties: log entry 16. -/
  | hostOutOfTurn
  /-- Raised by `hostMove` for FB_READ with an index above 4031, which "the host never issues" (20_memory.md R34).
  Unsafe for a host that issues one: log entry 17. -/
  | fbIndexOutsideView
deriving DecidableEq, Repr

namespace State

/-! One named update per element; the operations of Flags and Ops are made of them. -/

def withIp (s : State) (x y : Byte) : State := { s with ipX := x, ipY := y }
def withDir (s : State) (d : Dir) : State := { s with dir := d }
def withStack (s : State) (st : List Byte) : State := { s with stack := st }
def withGrid (s : State) (m : Memory) : State := { s with grid := m }
def withLabels (s : State) (l : Vector LabelEntry 256) : State := { s with labels := l }
def withFb (s : State) (f : Frame) : State := { s with fb := f }
def withShutdown (s : State) (b : Bool) : State := { s with shutdown := b }
def withRedraw (s : State) (b : Bool) : State := { s with redraw := b }
def withGamepad (s : State) (w : BitVec 16) : State := { s with gamepad := w }
def withErr (s : State) (e : ErrCode) : State := { s with err := e }
def withOvfSeen (s : State) (b : Bool) : State := { s with ovfSeen := b }
def withFault (s : State) (b : Bool) : State := { s with fault := b }
def withDraws (s : State) (n : Nat) : State := { s with draws := n }

end State

end Sys2Proof.Machine
end

