-- ==== Sys2Proof/Machine/Flags.lean ====
section
/-! DEFINITION. The status bits: who sets and clears ERR, OVF_SEEN, FAULT, REDRAW and SHUTDOWN, and when a step is
enabled. -/

namespace Sys2Proof.Machine

/-- The 2-bit code of ERR (10_state.md R20). -/
def errBits : ErrCode → BitVec 2
  | .none => 0
  | .stackOverflow => 1
  | .divByZero => 2

/-- The start of a step: `err <- NONE` (40_dispatch.md R58). -/
def clearErr (s : State) : State := s.withErr .none

/-- `raise StackOverflow()`: ERR and OVF_SEEN are written, the instruction goes on (60_exceptions.md R99). -/
def raiseStackOverflow (s : State) : State := (s.withErr .stackOverflow).withOvfSeen true

/-- What a DivByZero trap writes: FAULT and ERR and nothing else (60_exceptions.md R100). -/
def markDivByZero (s : State) : State := (s.withErr .divByZero).withFault true

/-- `REDRAW <- 1`, by every drawing instruction (10_state.md R18). -/
def raiseRedraw (s : State) : State := s.withRedraw true

/-- `SHUTDOWN <- 1`, by `@` (10_state.md R17). -/
def raiseShutdown (s : State) : State := s.withShutdown true

/-- "A STEP takes effect only when SHUTDOWN = 0 and FAULT = 0" (40_dispatch.md R57); a state with FAULT = 1 is faulted
whatever SHUTDOWN is (60_exceptions.md R111; log entry 8). -/
def whenEnabled (s : State) (go : Host.Outcome State Fault Refusal) : Host.Outcome State Fault Refusal :=
  if s.fault then .fault .stopped
  else if s.shutdown then .refused .shutDown
  else go

end Sys2Proof.Machine
end

