-- ==== Sys2Proof/Machine/Ops.lean ====
section
/-! DEFINITION. The named operations over the IP, the stack, the grid, the framebuffer and the label index; the frame of
a step; taking the one trap and the one way out of it. -/

namespace Sys2Proof.Machine

/-- `trunc8(v) = v mod 256` (00_scope.md section 5). -/
def trunc8 (v : Int) : Byte := BitVec.ofInt 8 v

/-! ### Listed cells -/

/-- The cell at `a`: what is listed there, else `d`. -/
def cellRead {α : Type} (d : α) : List (Nat × α) → Nat → α
  | [], _ => d
  | (k, v) :: m, a => if k = a then v else cellRead d m a

/-- The cells without the one at `a`. -/
def cellErase {α : Type} (m : List (Nat × α)) (a : Nat) : List (Nat × α) :=
  m.filter fun p => decide (p.1 ≠ a)

/-- The cells with `(a, v)` put before the first address above `a`. -/
def cellInsert {α : Type} (a : Nat) (v : α) : List (Nat × α) → List (Nat × α)
  | [] => [(a, v)]
  | (k, w) :: m => if a < k then (a, v) :: (k, w) :: m else (k, w) :: cellInsert a v m

/-- Write `v` at `a`: the value an unlisted address reads as is not listed. -/
def cellWrite {α : Type} [DecidableEq α] (d : α) (m : List (Nat × α)) (a : Nat) (v : α) : List (Nat × α) :=
  if v = d then cellErase m a else cellInsert a v (cellErase m a)

/-! ### Grid and framebuffer -/

/-- GridAddr(x, y), "for integers x and y of any sign" (20_memory.md R29). -/
def gridAddr (x y : Int) : Fin 32768 := ⟨((y % 128) * 256 + x % 256).toNat, by omega⟩

/-- FbAddr(x, y), on untruncated integers (20_memory.md R32; log entry 21). -/
def fbAddr (x y : Int) : Fin 4032 := ⟨((y % 48) * 84 + x % 84).toNat, by omega⟩

/-- MemRead(a, 1) (20_memory.md R30). -/
def memRead (s : State) (a : Fin 32768) : Byte := cellRead 0 s.grid a.val

/-- MemWrite(a, 1, v) (20_memory.md R31). -/
def memWrite (s : State) (a : Fin 32768) (v : Byte) : State := s.withGrid (cellWrite 0 s.grid a.val v)

/-- The cell of a frame at an index (20_memory.md R34). -/
def frameRead (f : Frame) (a : Fin 4032) : Bit := cellRead 0 f a.val

/-- `FB[FbAddr(x, y)] <- bit` on a frame (20_memory.md R33). -/
def frameWrite (f : Frame) (x y : Int) (bit : Bit) : Frame := cellWrite 0 f (fbAddr x y).val bit

/-- The framebuffer cell at an index (20_memory.md R34). -/
def fbRead (s : State) (a : Fin 4032) : Bit := frameRead s.fb a

/-- FbWrite(x, y, bit) (20_memory.md R33): REDRAW is not its business. -/
def fbWrite (s : State) (x y : Int) (bit : Bit) : State := s.withFb (frameWrite s.fb x y bit)

/-- "for every framebuffer cell f: FB[f] <- 0" (46_drawing.md R95). -/
def fbClear (s : State) : State := s.withFb []

/-! ### Stack -/

/-- Push(v) (10_state.md R12): on a full stack nothing is stored and the overflow is recorded. -/
def push (v : Byte) (s : State) : State :=
  if s.stack.length < 512 then s.withStack (v :: s.stack) else raiseStackOverflow s

/-- Peek() (10_state.md R14): the top, or 0. -/
def peek (s : State) : Byte := s.stack.headD 0

/-- Pop() (10_state.md R13): the top, or 0, and the stack without it. -/
def pop (s : State) : Byte × State := (peek s, s.withStack s.stack.tail)

/-! ### Instruction pointer -/

/-- The direction a 2-bit code stands for (10_state.md R10). -/
def dirOfCode (c : BitVec 2) : Dir :=
  if c = 0 then .east else if c = 1 then .west else if c = 2 then .south else .north

/-- The 2-bit code of a direction (10_state.md R10). -/
def dirCode : Dir → BitVec 2
  | .east => 0
  | .west => 1
  | .south => 2
  | .north => 3

/-- Advance(x, y, d) (40_dispatch.md R59). -/
def advance (x y : Byte) (d : Dir) : Byte × Byte :=
  match d with
  | .east => (trunc8 ((x.toNat : Int) + 1), y)
  | .west => (trunc8 ((x.toNat : Int) - 1), y)
  | .south => (x, trunc8 ((y.toNat : Int) + 1))
  | .north => (x, trunc8 ((y.toNat : Int) - 1))

/-- `(IP.x, IP.y) <- Advance(IP.x, IP.y, DIR)`: the tail advance (40_dispatch.md R60) and the pre-advance of `#` and `'`. -/
def moveIp (s : State) : State :=
  s.withIp (advance s.ipX s.ipY s.dir).1 (advance s.ipX s.ipY s.dir).2

/-- The byte in the cell the IP designates (10_state.md R9, 20_memory.md R29). -/
def byteAtIp (s : State) : Byte := memRead s (gridAddr s.ipX.toNat s.ipY.toNat)

/-- Put a byte in the cell the IP designates. -/
def placeAtIp (s : State) (b : Byte) : State := memWrite s (gridAddr s.ipX.toNat s.ipY.toNat) b

/-! ### Label index -/

/-- Label[c] (10_state.md R15). -/
def labelOf (s : State) (c : Byte) : LabelEntry := s.labels[c.toNat]'(c.isLt)

/-- `Label[c] <- e` (20_memory.md R43). -/
def setLabel (s : State) (c : Byte) (e : LabelEntry) : State := s.withLabels (s.labels.set c.toNat e c.isLt)

/-! ### The random draw -/

/-- `draw r from RAND2` (41_movement.md R70): the next free value. -/
def drawRand2 (s : State) : BitVec 2 × State := (Config.rand2 s.draws, s.withDraws (s.draws + 1))

/-! ### A step around its handler -/

/-- A step that does not trap (40_dispatch.md R58): ERR starts at NONE and a failed Push of the handler writes it; then
the tail advance. -/
def complete (handler : State → State) (s : State) : Host.Outcome State Fault Refusal :=
  .next (moveIp (handler (clearErr s)))

/-- Taking the DivByZero trap (60_exceptions.md R100): the state before the step with FAULT <- 1 and ERR <- DIV_BY_ZERO;
no tail advance, no vector, nothing saved (R104). -/
def takeDivByZero (s : State) : Host.Outcome State Fault Refusal := .next (markDivByZero s)

/-- INIT (70_reset_and_hazards.md R113), "the only way out of FAULT = 1 or SHUTDOWN = 1" (60_exceptions.md R105): every
element of R6 at its reset value. The draw counter is no element of R6 and goes on, so that later draws are as free as
the first (log entry 3). -/
def initBlock (s : State) : State := State.reset.withDraws s.draws

end Sys2Proof.Machine
end

