-- ==== Sys2Proof/Machine/Operands.lean ====
section
/-! DEFINITION. The operand forms (30_encoding.md R52): values popped from the stack, first-named first; the hex literal;
the quoted byte; grid addresses from popped bytes; the sprite decoder's operands. -/

namespace Sys2Proof.Machine

/-- `a <- Pop(); b <- Pop()`: the two bytes and the state after. -/
def pop2 (s : State) : Byte × Byte × State :=
  ((pop s).1, (pop (pop s).2).1, (pop (pop s).2).2)

/-- `x <- Pop(); y <- Pop(); v <- Pop()`: the three bytes and the state after. -/
def pop3 (s : State) : Byte × Byte × Byte × State :=
  ((pop2 s).1, (pop2 s).2.1, (pop (pop2 s).2.2).1, (pop (pop2 s).2.2).2)

/-- `x1 <- Pop(); y1 <- Pop(); x2 <- Pop(); y2 <- Pop()`: the four bytes and the state after. -/
def pop4 (s : State) : Byte × Byte × Byte × Byte × State :=
  ((pop2 s).1, (pop2 s).2.1, (pop2 (pop2 s).2.2).1, (pop2 (pop2 s).2.2).2.1, (pop2 (pop2 s).2.2).2.2)

/-- One popped operand, one pushed result. -/
def unaryOp (f : Byte → Byte) (s : State) : State := push (f (pop s).1) (pop s).2

/-- Two popped operands `a`, `b`, one pushed result (42_arithmetic.md R71, 43_logic.md R78). -/
def binaryOp (f : Byte → Byte → Byte) (s : State) : State := push (f (pop2 s).1 (pop2 s).2.1) (pop2 s).2.2

/-- Two popped operands whose second is a divisor: the trap when it is 0 (42_arithmetic.md R75, R76). -/
def divideOp (f : Byte → Byte → Byte) (s : State) : Host.Outcome State Fault Refusal :=
  if (pop2 s).2.1 = 0 then takeDivByZero s else complete (binaryOp f) s

/-- A popped byte chooses the direction: `zero` when it is 0, else `other` (43_logic.md R79, R80). -/
def branchOp (zero other : Dir) (s : State) : State :=
  (pop s).2.withDir (if (pop s).1 = 0 then zero else other)

/-- The grid address of two popped bytes (45_memory_flow.md, preamble). -/
def cellAt (x y : Byte) : Fin 32768 := gridAddr x.toNat y.toNat

/-- Pop `x`, `y` and push `f` of the byte in that cell (45_memory_flow.md R84, R85). -/
def loadOp (f : Byte → Byte) (s : State) : State :=
  push (f (memRead (pop2 s).2.2 (cellAt (pop2 s).1 (pop2 s).2.1))) (pop2 s).2.2

/-- Pop `x`, `y`, `v` and write `f v` to that cell (45_memory_flow.md R86, R87). -/
def storeOp (f : Byte → Byte) (s : State) : State :=
  memWrite (pop3 s).2.2.2 (cellAt (pop3 s).1 (pop3 s).2.1) (f (pop3 s).2.2.1)

/-- The hex literal: the instruction's own byte, decoded (40_dispatch.md R63). -/
def pushLiteral (b : Byte) (s : State) : State := push (hexDecode b) s

/-- SpriteLine(x1, y1, k) (46_drawing.md R93): the high nibble from the earlier cell of the pair, each by HexDecode
(log entry 12). -/
def spriteLine (s : State) (x1 y1 : Byte) (k : Nat) : Byte :=
  (hexDecode (memRead s (gridAddr ((x1.toNat : Int) + 2 * k) y1.toNat)) <<< 4)
    ||| hexDecode (memRead s (gridAddr ((x1.toNat : Int) + 2 * k + 1) y1.toNat))

/-- One line of a sprite on a frame: bit 7 first, each bit written as 0 or 1 (46_drawing.md R94). -/
def frameLine (x y : Int) (line : Byte) (f : Frame) : Frame :=
  (List.range 8).foldl (fun g (i : Nat) => frameWrite g (x + i) y (BitVec.ofBool (line.getLsbD (7 - i)))) f

/-- Eight lines on a frame, downwards (46_drawing.md R94). -/
def frameSprite (lines : Nat → Byte) (x y : Int) (f : Frame) : Frame :=
  (List.range 8).foldl (fun g (k : Nat) => frameLine x (y + k) (lines k) g) f

/-- The sprite blit (46_drawing.md R94): "the grid is only read", so its lines are those of the state it starts from. -/
def drawSprite (x1 y1 x2 y2 : Byte) (s : State) : State :=
  s.withFb (frameSprite (spriteLine s x1 y1) x2.toNat y2.toNat s.fb)

end Sys2Proof.Machine
end

