-- ==== Sys2Proof/Machine/Arithmetic.lean ====
section
/-! DEFINITION. The arithmetic instructions (42_arithmetic.md R71 to R76): `a` is the top of the stack, `b` the element
below it; the result is computed on integers and truncated to 8 bits. -/

namespace Sys2Proof.Machine

/-- ADD `+` (R72). -/
def execAdd (s : State) : Host.Outcome State Fault Refusal :=
  complete (binaryOp fun a b => trunc8 ((a.toNat : Int) + b.toNat)) s

/-- SUB `-` (R73): top minus second. -/
def execSub (s : State) : Host.Outcome State Fault Refusal :=
  complete (binaryOp fun a b => trunc8 ((a.toNat : Int) - b.toNat)) s

/-- MUL `*` (R74). -/
def execMul (s : State) : Host.Outcome State Fault Refusal :=
  complete (binaryOp fun a b => trunc8 ((a.toNat : Int) * b.toNat)) s

/-- DIV `/` (R75): top divided by second, or the trap. -/
def execDiv (s : State) : Host.Outcome State Fault Refusal :=
  divideOp (fun a b => trunc8 ((a.toNat / b.toNat : Nat) : Int)) s

/-- MOD `%` (R76): top modulo second, or the trap. -/
def execMod (s : State) : Host.Outcome State Fault Refusal :=
  divideOp (fun a b => trunc8 ((a.toNat % b.toNat : Nat) : Int)) s

end Sys2Proof.Machine
end

