-- ==== Sys2Proof/Machine/Control.lean ====
section
/-! DEFINITION. The control instructions (47_control.md R96, R97) and the default no-op (40_dispatch.md R64). -/

namespace Sys2Proof.Machine

/-- NOP_SPACE (R96). -/
def execNopSpace (s : State) : Host.Outcome State Fault Refusal := complete (fun t => t) s

/-- HALT `@` (R97): `IP <- (0, 0); SHUTDOWN <- 1`, then the tail advance. -/
def execHalt (s : State) : Host.Outcome State Fault Refusal := complete (fun t => raiseShutdown (t.withIp 0 0)) s

/-- NOP_DEFAULT (R64): whatever the byte. -/
def execNopDefault (_b : Byte) (s : State) : Host.Outcome State Fault Refusal := complete (fun t => t) s

end Sys2Proof.Machine
end

