-- ==== Sys2Proof/Machine/Drawing.lean ====
section
/-! DEFINITION. The drawing instructions (46_drawing.md R92 to R95): each sets REDRAW whether or not a cell changed. -/

namespace Sys2Proof.Machine

/-- PIXEL `.` (R92). -/
def execPixel (s : State) : Host.Outcome State Fault Refusal :=
  complete (fun t => raiseRedraw (fbWrite (pop2 t).2.2 (pop2 t).1.toNat (pop2 t).2.1.toNat 1)) s

/-- SPRITE `,` (R94): pops x1, y1, x2, y2, x1 on top. -/
def execSprite (s : State) : Host.Outcome State Fault Refusal :=
  complete (fun t => raiseRedraw
    (drawSprite (pop4 t).1 (pop4 t).2.1 (pop4 t).2.2.1 (pop4 t).2.2.2.1 (pop4 t).2.2.2.2)) s

/-- CLEAR `C` (R95). -/
def execClear (s : State) : Host.Outcome State Fault Refusal := complete (fun t => raiseRedraw (fbClear t)) s

end Sys2Proof.Machine
end

