-- ==== Sys2Proof/Machine/Flow.lean ====
section
/-! DEFINITION. The memory, skip, quote, jump and label instructions (45_memory_flow.md R84 to R91). -/

namespace Sys2Proof.Machine

/-- GET `g` (R84). -/
def execGet (s : State) : Host.Outcome State Fault Refusal := complete (loadOp fun v => v) s

/-- GET_HEX `G` (R85). -/
def execGetHex (s : State) : Host.Outcome State Fault Refusal := complete (loadOp hexDecode) s

/-- PUT `p` (R86). -/
def execPut (s : State) : Host.Outcome State Fault Refusal := complete (storeOp fun v => v) s

/-- PUT_HEX `P` (R87). -/
def execPutHex (s : State) : Host.Outcome State Fault Refusal := complete (storeOp hexDecode) s

/-- SKIP `#` (R88): the pre-advance. -/
def execSkip (s : State) : Host.Outcome State Fault Refusal := complete moveIp s

/-- QUOTE `'` (R89): the pre-advance, then the byte in the cell reached, raw. -/
def execQuote (s : State) : Host.Outcome State Fault Refusal :=
  complete (fun t => push (byteAtIp (moveIp t)) (moveIp t)) s

/-- JUMP `j` (R90). -/
def execJump (s : State) : Host.Outcome State Fault Refusal :=
  complete (fun t => (pop2 t).2.2.withIp (pop2 t).1 (pop2 t).2.1) s

/-- The pushes of `l` for a known label: y, then x + 1 truncated to 8 bits (R91). -/
def pushLabel (e : LabelEntry) (s : State) : State :=
  push (trunc8 ((e.x.toNat : Int) + 1)) (push (BitVec.ofNat 8 e.y.toNat) s)

/-- LABEL `l` (R91): the key is popped whether or not it is known (log entry 15). -/
def execLabel (s : State) : Host.Outcome State Fault Refusal :=
  complete (fun t => if (labelOf (pop t).2 (pop t).1).valid then pushLabel (labelOf (pop t).2 (pop t).1) (pop t).2
    else (pop t).2) s

end Sys2Proof.Machine
end

