-- ==== Sys2Proof/Machine/HexLiteral.lean ====
section
/-! DEFINITION. The sixteen hex-literal pushes (40_dispatch.md R63): each pushes HexDecode of its own byte. -/

namespace Sys2Proof.Machine

/-- PUSH_HEX_0 (R63). -/
def execPushHex0 (s : State) : Host.Outcome State Fault Refusal := complete (pushLiteral 0x30) s

/-- PUSH_HEX_1 (R63). -/
def execPushHex1 (s : State) : Host.Outcome State Fault Refusal := complete (pushLiteral 0x31) s

/-- PUSH_HEX_2 (R63). -/
def execPushHex2 (s : State) : Host.Outcome State Fault Refusal := complete (pushLiteral 0x32) s

/-- PUSH_HEX_3 (R63). -/
def execPushHex3 (s : State) : Host.Outcome State Fault Refusal := complete (pushLiteral 0x33) s

/-- PUSH_HEX_4 (R63). -/
def execPushHex4 (s : State) : Host.Outcome State Fault Refusal := complete (pushLiteral 0x34) s

/-- PUSH_HEX_5 (R63). -/
def execPushHex5 (s : State) : Host.Outcome State Fault Refusal := complete (pushLiteral 0x35) s

/-- PUSH_HEX_6 (R63). -/
def execPushHex6 (s : State) : Host.Outcome State Fault Refusal := complete (pushLiteral 0x36) s

/-- PUSH_HEX_7 (R63). -/
def execPushHex7 (s : State) : Host.Outcome State Fault Refusal := complete (pushLiteral 0x37) s

/-- PUSH_HEX_8 (R63). -/
def execPushHex8 (s : State) : Host.Outcome State Fault Refusal := complete (pushLiteral 0x38) s

/-- PUSH_HEX_9 (R63). -/
def execPushHex9 (s : State) : Host.Outcome State Fault Refusal := complete (pushLiteral 0x39) s

/-- PUSH_HEX_a (R63). -/
def execPushHexA (s : State) : Host.Outcome State Fault Refusal := complete (pushLiteral 0x61) s

/-- PUSH_HEX_b (R63). -/
def execPushHexB (s : State) : Host.Outcome State Fault Refusal := complete (pushLiteral 0x62) s

/-- PUSH_HEX_c (R63). -/
def execPushHexC (s : State) : Host.Outcome State Fault Refusal := complete (pushLiteral 0x63) s

/-- PUSH_HEX_d (R63). -/
def execPushHexD (s : State) : Host.Outcome State Fault Refusal := complete (pushLiteral 0x64) s

/-- PUSH_HEX_e (R63). -/
def execPushHexE (s : State) : Host.Outcome State Fault Refusal := complete (pushLiteral 0x65) s

/-- PUSH_HEX_f (R63). -/
def execPushHexF (s : State) : Host.Outcome State Fault Refusal := complete (pushLiteral 0x66) s

end Sys2Proof.Machine
end

