-- ==== Sys2Proof/Machine/Logic.lean ====
section
/-! DEFINITION. The logic and conditional instructions (43_logic.md R77 to R81). -/

namespace Sys2Proof.Machine

/-- NOT `!` (R77). -/
def execNot (s : State) : Host.Outcome State Fault Refusal :=
  complete (unaryOp fun a => if a = 0 then 1 else 0) s

/-- GREATER (R78): 1 if the second popped is above the first, unsigned. -/
def execGreater (s : State) : Host.Outcome State Fault Refusal :=
  complete (binaryOp fun a b => if b.toNat > a.toNat then 1 else 0) s

/-- IF_VERTICAL `|` (R79): 0 goes South, anything else North. -/
def execIfVertical (s : State) : Host.Outcome State Fault Refusal := complete (branchOp .south .north) s

/-- IF_HORIZONTAL `_` (R80): 0 goes East, anything else West. -/
def execIfHorizontal (s : State) : Host.Outcome State Fault Refusal := complete (branchOp .east .west) s

/-- SWAP `\` (R81). -/
def execSwap (s : State) : Host.Outcome State Fault Refusal :=
  complete (fun t => push (pop2 t).2.1 (push (pop2 t).1 (pop2 t).2.2)) s

end Sys2Proof.Machine
end

