-- ==== Sys2Proof/Machine/Movement.lean ====
section
/-! DEFINITION. The movement instructions (41_movement.md R66 to R70). -/

namespace Sys2Proof.Machine

/-- GO_EAST `>` (R66). -/
def execGoEast (s : State) : Host.Outcome State Fault Refusal := complete (fun t => t.withDir .east) s

/-- GO_WEST `<` (R67). -/
def execGoWest (s : State) : Host.Outcome State Fault Refusal := complete (fun t => t.withDir .west) s

/-- GO_SOUTH `v` (R68). -/
def execGoSouth (s : State) : Host.Outcome State Fault Refusal := complete (fun t => t.withDir .south) s

/-- GO_NORTH `^` (R69). -/
def execGoNorth (s : State) : Host.Outcome State Fault Refusal := complete (fun t => t.withDir .north) s

/-- GO_RANDOM `?` (R70): DIR is the direction of a fresh draw of RAND2. -/
def execGoRandom (s : State) : Host.Outcome State Fault Refusal :=
  complete (fun t => (drawRand2 t).2.withDir (dirOfCode (drawRand2 t).1)) s

end Sys2Proof.Machine
end

