-- ==== Sys2Proof/Machine/Stack.lean ====
section
/-! DEFINITION. The stack instructions (44_stack.md R82, R83). -/

namespace Sys2Proof.Machine

/-- DUP `:` (R82): `Push(Peek())`. -/
def execDup (s : State) : Host.Outcome State Fault Refusal := complete (fun t => push (peek t) t) s

/-- DROP `$` (R83). -/
def execDrop (s : State) : Host.Outcome State Fault Refusal := complete (fun t => (pop t).2) s

end Sys2Proof.Machine
end

