-- ==== Sys2Proof/Machine/Dispatch.lean ====
section
/-! DEFINITION. One arm per instruction, each one call of its meaning. -/

namespace Sys2Proof.Machine

def exec (i : Instr) (s : State) : Host.Outcome State Fault Refusal :=
  match i with
  | .goEast => Sys2Proof.Machine.execGoEast s
  | .goWest => Sys2Proof.Machine.execGoWest s
  | .goSouth => Sys2Proof.Machine.execGoSouth s
  | .goNorth => Sys2Proof.Machine.execGoNorth s
  | .goRandom => Sys2Proof.Machine.execGoRandom s
  | .add => Sys2Proof.Machine.execAdd s
  | .sub => Sys2Proof.Machine.execSub s
  | .mul => Sys2Proof.Machine.execMul s
  | .div => Sys2Proof.Machine.execDiv s
  | .mod => Sys2Proof.Machine.execMod s
  | .not => Sys2Proof.Machine.execNot s
  | .greater => Sys2Proof.Machine.execGreater s
  | .ifVertical => Sys2Proof.Machine.execIfVertical s
  | .ifHorizontal => Sys2Proof.Machine.execIfHorizontal s
  | .swap => Sys2Proof.Machine.execSwap s
  | .dup => Sys2Proof.Machine.execDup s
  | .drop => Sys2Proof.Machine.execDrop s
  | .get => Sys2Proof.Machine.execGet s
  | .getHex => Sys2Proof.Machine.execGetHex s
  | .put => Sys2Proof.Machine.execPut s
  | .putHex => Sys2Proof.Machine.execPutHex s
  | .skip => Sys2Proof.Machine.execSkip s
  | .quote => Sys2Proof.Machine.execQuote s
  | .jump => Sys2Proof.Machine.execJump s
  | .label => Sys2Proof.Machine.execLabel s
  | .pixel => Sys2Proof.Machine.execPixel s
  | .sprite => Sys2Proof.Machine.execSprite s
  | .clear => Sys2Proof.Machine.execClear s
  | .nopSpace => Sys2Proof.Machine.execNopSpace s
  | .halt => Sys2Proof.Machine.execHalt s
  | .pushHex0 => Sys2Proof.Machine.execPushHex0 s
  | .pushHex1 => Sys2Proof.Machine.execPushHex1 s
  | .pushHex2 => Sys2Proof.Machine.execPushHex2 s
  | .pushHex3 => Sys2Proof.Machine.execPushHex3 s
  | .pushHex4 => Sys2Proof.Machine.execPushHex4 s
  | .pushHex5 => Sys2Proof.Machine.execPushHex5 s
  | .pushHex6 => Sys2Proof.Machine.execPushHex6 s
  | .pushHex7 => Sys2Proof.Machine.execPushHex7 s
  | .pushHex8 => Sys2Proof.Machine.execPushHex8 s
  | .pushHex9 => Sys2Proof.Machine.execPushHex9 s
  | .pushHexA => Sys2Proof.Machine.execPushHexA s
  | .pushHexB => Sys2Proof.Machine.execPushHexB s
  | .pushHexC => Sys2Proof.Machine.execPushHexC s
  | .pushHexD => Sys2Proof.Machine.execPushHexD s
  | .pushHexE => Sys2Proof.Machine.execPushHexE s
  | .pushHexF => Sys2Proof.Machine.execPushHexF s
  | .nopDefault b => Sys2Proof.Machine.execNopDefault b s

end Sys2Proof.Machine
end

