-- ==== Sys2Proof/Machine/Step.lean ====
section
/-! DEFINITION. One STEP (40_dispatch.md R57, R58). -/

namespace Sys2Proof.Machine

/-- An enabled STEP fetches the byte in the cell the IP designates, decodes it and runs it; a stopped block has no
step. -/
def step (s : State) : Host.Outcome State Fault Refusal :=
  whenEnabled s (exec (decodeByte (byteAtIp s)) s)

/-- `s` with the instruction whose bits are `w` in the cell the IP designates. Every instruction is one byte, so bits
above 7 belong to none (log entry 20); a stopped `s` stays stopped. -/
def State.withFetchWord (s : State) (_nbits w : Nat) : State := placeAtIp s (BitVec.ofNat 8 w)

end Sys2Proof.Machine
end

