-- ==== Sys2Proof/Machine/HostOps.lean ====
section
/-! DEFINITION. The host's operations on the block other than STEP and INIT (10_state.md R25), the label scan
(20_memory.md R43) and the reference ROM loader (R46 to R48). -/

namespace Sys2Proof.Machine

/-- LOAD_WRITE(a, v) (20_memory.md R46). -/
def loadWrite (a : Fin 32768) (v : Byte) (s : State) : State := memWrite s a v

/-- `for c in 0..255: Label[c].valid <- 0` (20_memory.md R43). -/
def invalidateLabels (s : State) : State := s.withLabels (s.labels.map fun e => { e with valid := false })

/-- The scan's visit of one cell: a `;` records the byte in the next column at that column (20_memory.md R43). -/
def scanCell (y : Nat) (s : State) (x : Nat) : State :=
  if memRead s (gridAddr x y) = 0x3B then
    setLabel s (memRead s (gridAddr ((x : Int) + 1) y)) { valid := true, x := BitVec.ofNat 8 (x + 1), y := BitVec.ofNat 7 y }
  else s

/-- One row of the scan: columns 0 to 254, ascending; "The scan skips the last column of each row". -/
def scanRow (s : State) (y : Nat) : State := (List.range 255).foldl (scanCell y) s

/-- LABEL_SCAN (20_memory.md R43): rows ascending outside, columns ascending inside (log entry 11). -/
def labelScan (s : State) : State := (List.range 128).foldl scanRow (invalidateLabels s)

/-- FB_READ(i) (20_memory.md R34): a byte 0 or 1; no index above 4031 is in the view. -/
def fbReadView (i : BitVec 12) (s : State) : Option Byte :=
  if h : i.toNat < 4032 then some (BitVec.ofNat 8 (fbRead s ⟨i.toNat, h⟩).toNat) else none

/-- What READ_FLAGS answers (10_state.md R25). -/
structure FlagsView where
  shutdown : Bool
  redraw : Bool
  err : BitVec 2
  ovfSeen : Bool
  fault : Bool
deriving DecidableEq, Repr

/-- READ_FLAGS (10_state.md R25). -/
def readFlags (s : State) : FlagsView :=
  { shutdown := s.shutdown, redraw := s.redraw, err := errBits s.err, ovfSeen := s.ovfSeen, fault := s.fault }

/-- REDRAW_CLEAR (10_state.md R18, R25). -/
def redrawClear (s : State) : State := s.withRedraw false

/-- GAMEPAD_WRITE(w) (10_state.md R19, R25): all 16 bits are stored as written. -/
def gamepadWrite (w : BitVec 16) (s : State) : State := s.withGamepad w

/-! ### The reference loader -/

/-- `repeat n times: LOAD_WRITE(pos, 0); pos <- pos + 1` (20_memory.md R47). -/
def padCells (pos n : Nat) : List Host.Cell := (List.range n).map fun k => (pos + k, 0)

/-- The LOAD_WRITEs of the reference loader from linear offset `pos` and column `col` (20_memory.md R47). -/
def romWrites : List Byte → Nat → Nat → List Host.Cell
  | [], _, _ => []
  | b :: file, pos, col =>
    if b = 0x0A then padCells pos (256 - col) ++ romWrites file (pos + (256 - col)) 0
    else (pos, b) :: romWrites file (pos + 1) (if col + 1 = 255 then 0 else col + 1)

/-- The lines of a ROM file: the segments between its `'\n'` bytes, an empty last one being no line (R47: "the last line
may lack the '\n'"). -/
def romLines : List Byte → List (List Byte)
  | [] => []
  | b :: file =>
    if b = 0x0A then [] :: romLines file
    else (b :: (romLines file).headD []) :: (romLines file).tail

/-- "a well-formed ROM, meaning at most 128 lines each of at most 254 bytes" (20_memory.md R47). -/
def romWellFormed (file : List Byte) : Bool :=
  decide ((romLines file).length ≤ 128) && (romLines file).all fun l => decide (l.length ≤ 254)

/-- The LOAD_WRITEs a ROM file causes: the reference loader's for a well-formed ROM, else a host parameter (20_memory.md
R48; log entry 13). -/
def romImage (file : List Byte) : List Host.Cell :=
  if 128 < (romLines file).length then Config.loaderOverflow file
  else if romWellFormed file then romWrites file 0 0
  else Config.loaderLongLine file

/-- LOAD_WRITEs in order; LOAD_WRITE's address has 15 bits, so the host cannot issue one outside the grid. -/
def applyWrites (ws : List Host.Cell) (s : State) : State :=
  ws.foldl (fun t w => if h : w.1 < 32768 then loadWrite ⟨w.1, h⟩ w.2 t else t) s

/-- LoadROM(file) (20_memory.md R47, 70_reset_and_hazards.md R114): the LOAD_WRITEs, then one LABEL_SCAN. -/
def loadRom (file : List Byte) (s : State) : State := labelScan (applyWrites (romImage file) s)

end Sys2Proof.Machine
end

