-- ==== Sys2Proof/Machine/Session.lean ====
section
/-! DEFINITION. The block as the host drives it: STEP as the host sees it, and the eight host operations under the load
protocol (10_state.md R25, R26; 60_exceptions.md R101, R112; 70_reset_and_hazards.md R114, R115; log entry 16). -/

namespace Sys2Proof.Machine

/-- The host's STEP: a stopped block "ignores STEP: no state changes, ERR included" (40_dispatch.md R57). -/
def hostStep (s : State) : State :=
  match step s with
  | .next t => t
  | .fault _ => s
  | .refused _ => s

/-- How far the host has come in boot and load (70_reset_and_hazards.md R115). -/
inductive Phase where
  /-- no INIT has been issued: "`Initialize()` must precede anything else" -/
  | powerOn
  /-- INIT has been issued and nothing loaded -/
  | initialised
  /-- some LOAD_WRITE has been issued and LABEL_SCAN not yet -/
  | loading
  /-- LABEL_SCAN has ended the load -/
  | loaded
  /-- a STEP has been issued -/
  | running
  /-- a RomReadError has ended the load (60_exceptions.md R101) -/
  | loadFailed
deriving DecidableEq, Repr

/-- The block and the host's progress with it. -/
structure Session where
  block : State
  phase : Phase
deriving DecidableEq, Repr

/-- What the host can do (10_state.md R25), and the one thing that can happen to it while it loads (R101). -/
inductive HostMove where
  | init
  | loadWrite (a : Fin 32768) (v : Byte)
  | labelScan
  | step
  | fbRead (i : BitVec 12)
  | readFlags
  | redrawClear
  | gamepadWrite (w : BitVec 16)
  | romReadError
deriving DecidableEq, Repr

/-- What an operation answers (10_state.md R25). -/
inductive HostReply where
  | done
  | stepErr (err : BitVec 2)
  | cell (b : Byte)
  | flags (f : FlagsView)
deriving DecidableEq, Repr

/-- LOAD_WRITE and LABEL_SCAN occur "only after INIT and before the first STEP", and one LABEL_SCAN ends the load
(92_eei_decisions.md D14). -/
def mayLoad : Phase → Bool
  | .initialised => true
  | .loading => true
  | .powerOn => false
  | .loaded => false
  | .running => false
  | .loadFailed => false

/-- STEP occurs after INIT, never in the middle of a load, never after a RomReadError (60_exceptions.md R101, R112;
70_reset_and_hazards.md R116 for a block with nothing loaded). -/
def mayStep : Phase → Bool
  | .initialised => true
  | .loaded => true
  | .running => true
  | .powerOn => false
  | .loading => false
  | .loadFailed => false

/-- The other operations occur between any two steps once INIT has been issued (60_exceptions.md R112). -/
def mayObserve : Phase → Bool
  | .powerOn => false
  | .initialised => true
  | .loading => true
  | .loaded => true
  | .running => true
  | .loadFailed => true

/-- A move allowed in this phase ends in `z` with the reply `r`; any other is one the host never makes. -/
def allowed (ok : Bool) (z : Session) (r : HostReply) : Host.Outcome (Session × HostReply) Fault Refusal :=
  if ok then .next (z, r) else .refused .hostOutOfTurn

/-- One move of the host. -/
def hostMove (m : HostMove) (z : Session) : Host.Outcome (Session × HostReply) Fault Refusal :=
  match m with
  | .init => .next (⟨initBlock z.block, .initialised⟩, .done)
  | .loadWrite a v => allowed (mayLoad z.phase) ⟨loadWrite a v z.block, .loading⟩ .done
  | .labelScan => allowed (mayLoad z.phase) ⟨labelScan z.block, .loaded⟩ .done
  | .step => allowed (mayStep z.phase) ⟨hostStep z.block, .running⟩ (.stepErr (errBits (hostStep z.block).err))
  | .fbRead i =>
    match fbReadView i z.block with
    | some b => allowed (mayObserve z.phase) z (.cell b)
    | none => .refused .fbIndexOutsideView
  | .readFlags => allowed (mayObserve z.phase) z (.flags (readFlags z.block))
  | .redrawClear => allowed (mayObserve z.phase) ⟨redrawClear z.block, z.phase⟩ .done
  | .gamepadWrite w => allowed (mayObserve z.phase) ⟨gamepadWrite w z.block, z.phase⟩ .done
  | .romReadError => allowed (mayLoad z.phase) ⟨z.block, .loadFailed⟩ .done

end Sys2Proof.Machine
end

