-- ==== Sys2Proof/Safety.lean ====
section
/-! DEFINITION. What counts as a legal state and a clean end, and the terms the statements are written in. -/

namespace Sys2Proof.Machine

/-- The states the block can be in: the grid and framebuffer in their canonical forms, at most 512 bytes on the stack
(10_state.md R11), label columns from 1 (R15), and the three error reports in step with one another (R20 to R22). -/
structure State.Legal (s : State) : Prop where
  grid_wf : s.grid.wf
  fb_wf : s.fb.wf
  stack_le : s.stack.length ≤ 512
  label_x : ∀ c : Byte, (labelOf s c).valid = true → 1 ≤ (labelOf s c).x.toNat
  fault_iff : s.fault = true ↔ s.err = .divByZero
  ovf_seen : s.err = .stackOverflow → s.ovfSeen = true

/-- "A state with SHUTDOWN = 1 and FAULT = 0 is final" (60_exceptions.md R111). -/
def State.isFinal (s : State) : Bool := s.shutdown && !s.fault

/-- "A state with FAULT = 1 is stopped but not final" (60_exceptions.md R111). -/
def State.isFaulted (s : State) : Bool := s.fault

/-- `n` steps, stopping where a step stops. -/
def runSteps : Nat → State → Host.Outcome State Fault Refusal
  | 0, s => .next s
  | n + 1, s =>
    match step s with
    | .next t => runSteps n t
    | .fault r => .fault r
    | .refused r => .refused r

/-- The `n`-th byte a pop would give, counting from 0: 0 below the bottom of the stack (10_state.md R13). -/
def State.popped (s : State) (n : Nat) : Byte := s.stack.getD n 0

/-- `s` at the end of a step without an error whose handler left the IP at `(x, y)` and DIR at `d` (40_dispatch.md
R58). -/
def State.endsAt (s : State) (x y : Byte) (d : Dir) : State :=
  { s with ipX := (advance x y d).1, ipY := (advance x y d).2, dir := d, err := .none }

/-- `s` at the end of such a step whose handler left the IP and DIR alone. -/
def State.endsHere (s : State) : State := s.endsAt s.ipX s.ipY s.dir

/-- `s` with the record of a failed Push (60_exceptions.md R99). -/
def State.overflowed (s : State) : State := { s with err := .stackOverflow, ovfSeen := true }

/-- An outcome with its next state changed by `f`. -/
def mapNext (f : State → State) : Host.Outcome State Fault Refusal → Host.Outcome State Fault Refusal
  | .next s => .next (f s)
  | .fault r => .fault r
  | .refused r => .refused r

/-- Two states that differ at most in the value of IP.y, with the same designated row (10_state.md R9). -/
def sameRow (s t : State) : Prop :=
  s.ipY.toNat % 128 = t.ipY.toNat % 128 ∧ { s with ipY := t.ipY } = t

/-- The cells of label `c` hold what its entry says: `;` and then `c` (20_memory.md R45). -/
def labelCellsMatch (s : State) (c : Byte) : Prop :=
  memRead s (gridAddr (((labelOf s c).x.toNat : Int) - 1) (labelOf s c).y.toNat) = 0x3B ∧
    memRead s (gridAddr (labelOf s c).x.toNat (labelOf s c).y.toNat) = c

/-- The scan records key `c` from the `;` at `(x, y)`: columns 0 to 254 only (20_memory.md R43). -/
def marksLabel (s : State) (c : Byte) (x y : Nat) : Prop :=
  x < 255 ∧ y < 128 ∧ memRead s (gridAddr x y) = 0x3B ∧ memRead s (gridAddr ((x : Int) + 1) y) = c

/-- Two outcomes of the same kind: next states that agree but for the alias of the row, or the same reason to stop. -/
def sameRowOutcome : Host.Outcome State Fault Refusal → Host.Outcome State Fault Refusal → Prop
  | .next s, .next t => sameRow s t
  | .fault r, .fault q => r = q
  | .refused r, .refused q => r = q
  | .next _, .fault _ => False
  | .next _, .refused _ => False
  | .fault _, .next _ => False
  | .fault _, .refused _ => False
  | .refused _, .next _ => False
  | .refused _, .fault _ => False

/-- A ROM file of these lines, each ended by its `'\n'`, and an unended last part (20_memory.md R47). -/
def romOf (lines : List (List Byte)) (last : List Byte) : List Byte :=
  (lines.flatMap fun l => l ++ [0x0A]) ++ last

end Sys2Proof.Machine
end

