-- ==== Sys2Proof/Certificates/Slice0/Obligations.lean ====
section
/-! DEFINITION. The statements about the block, each from the rule of spec/ its docstring names. -/

open Sys2Proof Sys2Proof.Machine

/-! ### Stack primitives -/

/-- R13: Pop removes and returns the top; on the empty stack it returns 0 and changes nothing. -/
def Obligations.PopTakesTopOrReadsZero : Prop :=
  ∀ s : State, (s.stack = [] → pop s = (0, s)) ∧
    ∀ v r, s.stack = v :: r → pop s = (v, { s with stack := r })

/-- 10_state.md section 3 and 60_exceptions.md section 1: a Push stores below 512 bytes; at 512 it stores nothing and
only records the overflow. The record (ERR, OVF_SEEN) is the spec's decision D5 (log entry 9). -/
def Obligations.PushStoresOrReportsOverflow : Prop :=
  ∀ (s : State) (v : Byte),
    (s.stack.length < 512 → push v s = { s with stack := v :: s.stack }) ∧
    (s.stack.length = 512 → push v s = s.overflowed)

/-! ### Address decoders, grid and framebuffer -/

/-- R29: the formula, on integers of any sign, and the torus it makes. -/
def Obligations.GridAddressIsToroidal : Prop :=
  (∀ x y : Int, ((gridAddr x y).val : Int) = (y % 128) * 256 + x % 256) ∧
  (∀ x y : Int, gridAddr (255 + 1) y = gridAddr 0 y ∧ gridAddr x (127 + 1) = gridAddr x 0) ∧
  (∀ x y : Int, gridAddr (0 - 1) y = gridAddr 255 y ∧ gridAddr x (0 - 1) = gridAddr x 127)

/-- 20_memory.md section 2, the inference R29 marks as derived: in two's complement of any width of at least 8 bits the
decoder is the slice of y[6:0] over x[7:0]. -/
def Obligations.GridAddressSlicesBits : Prop :=
  ∀ (w : Nat) (x y : BitVec w), 8 ≤ w →
    (gridAddr x.toInt y.toInt).val = (y.setWidth 7 ++ x.setWidth 8).toNat

/-- R31: a grid write sets its cell and changes no other cell and nothing else; of the instructions only `p` and `P`
write the grid, and no other host operation of a loaded block does. -/
def Obligations.GridWrittenOnlyByWrites : Prop :=
  (∀ (s : State) (a b : Fin 32768) (v : Byte),
    memRead (memWrite s a v) b = (if b = a then v else memRead s b)) ∧
  (∀ (s : State) (a : Fin 32768) (v : Byte), { memWrite s a v with grid := s.grid } = s) ∧
  (∀ (s : State) (a : Fin 32768) (v : Byte), loadWrite a v s = memWrite s a v) ∧
  (∀ (i : Instr) (s t : State), i ≠ .put → i ≠ .putHex → exec i s = .next t →
    ∀ a, memRead t a = memRead s a) ∧
  (∀ (s : State) (w : BitVec 16) (a : Fin 32768), memRead (labelScan s) a = memRead s a ∧
    memRead (redrawClear s) a = memRead s a ∧ memRead (gamepadWrite w s) a = memRead s a)

/-- R32: the formula on untruncated integers: column 257 is column 5, not column 1. -/
def Obligations.FramebufferAddressIsToroidal : Prop :=
  (∀ x y : Int, ((fbAddr x y).val : Int) = (y % 48) * 84 + x % 84) ∧
  fbAddr (250 + 7) 0 = fbAddr 5 0 ∧ fbAddr (250 + 7) 0 ≠ fbAddr 1 0

/-- R33: a framebuffer write sets its cell and changes no other cell, REDRAW included. -/
def Obligations.FramebufferReadsLastWrite : Prop :=
  ∀ (s : State) (x y : Int) (bit : Bit),
    (∀ a, fbRead (fbWrite s x y bit) a = if a = fbAddr x y then bit else fbRead s a) ∧
    { fbWrite s x y bit with fb := s.fb } = s

/-- 20_memory.md section 3: the host's view is row-major and shows 0 or 1; it has no index above 4031 (decision D2, log
entry 17). -/
def Obligations.FramebufferViewIsRowMajor : Prop :=
  (∀ (s : State) (x y : Nat), x < 84 → y < 48 →
    fbReadView (BitVec.ofNat 12 (y * 84 + x)) s = some (BitVec.ofNat 8 (fbRead s (fbAddr x y)).toNat)) ∧
  (∀ (s : State) (i : BitVec 12), (4032 ≤ i.toNat → fbReadView i s = none) ∧
    (i.toNat < 4032 → fbReadView i s = some 0 ∨ fbReadView i s = some 1))

/-! ### Encoding and dispatch -/

/-- 30_encoding.md sections 1 and 2: decoding and encoding are inverse on the well-formed instructions and on all 256
bytes (byte values by decision D18, log entry 14). -/
def Obligations.DecodeAndEncodeAgree : Prop :=
  (∀ i : Instr, i.wellFormed = true → decodeByte (encode i) = i) ∧
  (∀ b : Byte, (decodeByte b).wellFormed = true ∧ encode (decodeByte b) = b) ∧
  (∀ (b : Byte) (rest : List Byte), decode (b :: rest) = .ok (decodeByte b, rest))

/-- 30_encoding.md section 2: one byte of each family, from the opcode map (byte values by decision D18, log entry 14). -/
def Obligations.SpecBytesDecode : Prop :=
  decodeByte 0x3E = .goEast ∧ decodeByte 0x2D = .sub ∧ decodeByte 0x60 = .greater ∧ decodeByte 0x3A = .dup ∧
  decodeByte 0x47 = .getHex ∧ decodeByte 0x2C = .sprite ∧ decodeByte 0x40 = .halt ∧ decodeByte 0x66 = .pushHexF ∧
  decodeByte 0x3B = .nopDefault 0x3B

/-- 40_dispatch.md section 2: HexDecode and IsHex (ranges by decision D18, log entry 14). -/
def Obligations.HexDecodeByRange : Prop :=
  ∀ b : Byte,
    (0x30 ≤ b.toNat → b.toNat ≤ 0x39 → (hexDecode b).toNat = b.toNat - 0x30) ∧
    (0x61 ≤ b.toNat → b.toNat ≤ 0x66 → (hexDecode b).toNat = b.toNat - 0x61 + 10) ∧
    (b.toNat < 0x30 ∨ 0x39 < b.toNat ∧ b.toNat < 0x61 ∨ 0x66 < b.toNat → hexDecode b = 0xFF) ∧
    (isHex b = true ↔ hexDecode b ≠ 0xFF)

/-- R64 and R53: every default byte is the default no-op, which only advances; every byte decodes. -/
def Obligations.DefaultBytesAreNoOps : Prop :=
  (∀ b : Byte, isDefaultByte b = true → decodeByte b = .nopDefault b) ∧
  (∀ (b : Byte) (s : State), exec (.nopDefault b) s = .next s.endsHere) ∧
  (∀ b : Byte, ∃ i, i.wellFormed = true ∧ decode [b] = .ok (i, []))

/-! ### The step -/

/-- 40_dispatch.md section 1 and 30_encoding.md section 1: in an enabled block the byte in the designated cell, decoded,
is the instruction that runs. -/
def Obligations.StepRunsDecodedInstruction : Prop :=
  ∀ (s : State) (i : Instr), s.fault = false → s.shutdown = false →
    decodeByte (memRead s (gridAddr s.ipX.toNat s.ipY.toNat)) = i → step s = exec i s

/-- 40_dispatch.md section 1, decisions D3 and D7 (log entry 8): a faulted block has no step and is faulted; a shut-down
block has no step and is final; the host's STEP leaves either as it was. -/
def Obligations.StoppedBlockTakesNoStep : Prop :=
  ∀ s : State,
    (s.isFaulted = true → step s = .fault .stopped ∧ hostStep s = s) ∧
    (s.isFinal = true → step s = .refused .shutDown ∧ hostStep s = s) ∧
    (s.isFaulted = false → s.isFinal = false → step s = .next (hostStep s))

/-- R59: one cell, each coordinate modulo 256. -/
def Obligations.AdvanceMovesOneCell : Prop :=
  ∀ x y : Byte,
    (((advance x y .east).1.toNat : Int) = ((x.toNat : Int) + 1) % 256 ∧ (advance x y .east).2 = y) ∧
    (((advance x y .west).1.toNat : Int) = ((x.toNat : Int) - 1) % 256 ∧ (advance x y .west).2 = y) ∧
    ((advance x y .south).1 = x ∧ ((advance x y .south).2.toNat : Int) = ((y.toNat : Int) + 1) % 256) ∧
    ((advance x y .north).1 = x ∧ ((advance x y .north).2.toNat : Int) = ((y.toNat : Int) - 1) % 256)

/-! ### Movement -/

/-- R66 to R69: each turns DIR and moves one cell in the new direction. -/
def Obligations.DirectionInstructionsTurnAndMove : Prop :=
  (decodeByte 0x3E = .goEast ∧ decodeByte 0x3C = .goWest ∧ decodeByte 0x76 = .goSouth ∧ decodeByte 0x5E = .goNorth) ∧
  ∀ s : State,
    exec .goEast s = .next (s.endsAt s.ipX s.ipY .east) ∧ exec .goWest s = .next (s.endsAt s.ipX s.ipY .west) ∧
    exec .goSouth s = .next (s.endsAt s.ipX s.ipY .south) ∧ exec .goNorth s = .next (s.endsAt s.ipX s.ipY .north)

/-- 41_movement.md, decision D8 (log entry 3): DIR is the direction of the draw, whatever the draw is, and each of the
four codes is a direction. -/
def Obligations.RandomTurnsAsDrawn : Prop :=
  (∀ s : State, ∃ r : BitVec 2, r = Config.rand2 s.draws ∧
    exec .goRandom s = .next (({ s with draws := s.draws + 1 } : State).endsAt s.ipX s.ipY (dirOfCode r))) ∧
  dirOfCode 0 = .east ∧ dirOfCode 1 = .west ∧ dirOfCode 2 = .south ∧ dirOfCode 3 = .north

/-- 10_state.md section 2: the codes, what each direction moves, the inputs of the direction mux, and that every other
instruction leaves DIR unchanged. That a draw is the code of DIR is decision D8; the numbering of draws is the model's
(log entry 3). -/
def Obligations.DirectionMuxInputs : Prop :=
  (dirCode .east = 0 ∧ dirCode .west = 1 ∧ dirCode .south = 2 ∧ dirCode .north = 3) ∧
  (∀ x y : Byte, advance x y .east = (x + 1, y) ∧ advance x y .west = (x - 1, y) ∧
    advance x y .south = (x, y + 1) ∧ advance x y .north = (x, y - 1)) ∧
  ∀ (i : Instr) (s t : State), exec i s = .next t →
    (i = .goEast → t.dir = .east) ∧ (i = .goWest → t.dir = .west) ∧
    (i = .goSouth → t.dir = .south) ∧ (i = .goNorth → t.dir = .north) ∧
    (i = .goRandom → dirCode t.dir = Config.rand2 s.draws) ∧
    (i = .ifVertical → t.dir = if s.popped 0 = 0 then .south else .north) ∧
    (i = .ifHorizontal → t.dir = if s.popped 0 = 0 then .east else .west) ∧
    (i ∉ [.goEast, .goWest, .goSouth, .goNorth, .goRandom, .ifVertical, .ifHorizontal] → t.dir = s.dir)

/-! ### Arithmetic -/

/-- R72 to R74: a is the top, b the second; the result modulo 256 replaces both; nothing else changes but the IP and
ERR. -/
def Obligations.AddSubMulReplaceTopTwo : Prop :=
  (decodeByte 0x2B = .add ∧ decodeByte 0x2D = .sub ∧ decodeByte 0x2A = .mul) ∧
  ∀ s : State, s.stack.length ≤ 512 →
    exec .add s = .next (State.endsHere { s with stack := (s.popped 0 + s.popped 1) :: s.stack.drop 2 }) ∧
    exec .sub s = .next (State.endsHere { s with stack := (s.popped 0 - s.popped 1) :: s.stack.drop 2 }) ∧
    exec .mul s = .next (State.endsHere { s with stack := (s.popped 0 * s.popped 1) :: s.stack.drop 2 })

/-- 42_arithmetic.md: with a non-zero divisor (the second popped) the quotient or remainder of the top replaces both. -/
def Obligations.DivModReplaceTopTwo : Prop :=
  ∀ s : State, s.stack.length ≤ 512 → s.popped 1 ≠ 0 →
    exec .div s = .next (State.endsHere { s with
      stack := BitVec.ofNat 8 ((s.popped 0).toNat / (s.popped 1).toNat) :: s.stack.drop 2 }) ∧
    exec .mod s = .next (State.endsHere { s with
      stack := BitVec.ofNat 8 ((s.popped 0).toNat % (s.popped 1).toNat) :: s.stack.drop 2 })

/-- 60_exceptions.md section 1, decision D3 (log entry 6): with a zero divisor, which every stack of fewer than two
bytes gives, the state is as before but for FAULT and ERR. -/
def Obligations.ZeroDivisorTrapsPrecisely : Prop :=
  (∀ s : State, s.popped 1 = 0 →
    exec .div s = .next { s with fault := true, err := .divByZero } ∧
    exec .mod s = .next { s with fault := true, err := .divByZero }) ∧
  (∀ s : State, s.stack.length < 2 → s.popped 1 = 0)

/-! ### Logic and stack -/

/-- R77 and R78. -/
def Obligations.NotAndGreaterPushTruth : Prop :=
  (decodeByte 0x21 = .not ∧ decodeByte 0x60 = .greater) ∧
  ∀ s : State, s.stack.length ≤ 512 →
    exec .not s = .next (State.endsHere { s with stack := (if s.popped 0 = 0 then 1 else 0) :: s.stack.drop 1 }) ∧
    exec .greater s = .next (State.endsHere { s with
      stack := (if (s.popped 0).toNat < (s.popped 1).toNat then 1 else 0) :: s.stack.drop 2 })

/-- R79 and R80: the popped byte chooses the direction of the same step's advance. -/
def Obligations.BranchesFollowPoppedByte : Prop :=
  (decodeByte 0x7C = .ifVertical ∧ decodeByte 0x5F = .ifHorizontal) ∧
  ∀ s : State,
    (s.popped 0 = 0 →
      exec .ifVertical s = .next (({ s with stack := s.stack.drop 1 } : State).endsAt s.ipX s.ipY .south) ∧
      exec .ifHorizontal s = .next (({ s with stack := s.stack.drop 1 } : State).endsAt s.ipX s.ipY .east)) ∧
    (s.popped 0 ≠ 0 →
      exec .ifVertical s = .next (({ s with stack := s.stack.drop 1 } : State).endsAt s.ipX s.ipY .north) ∧
      exec .ifHorizontal s = .next (({ s with stack := s.stack.drop 1 } : State).endsAt s.ipX s.ipY .west))

/-- R81: the top two change places; missing values read as 0 and stay pushed. -/
def Obligations.SwapExchangesTopTwo : Prop :=
  decodeByte 0x5C = .swap ∧
  ∀ s : State, s.stack.length ≤ 512 →
    exec .swap s = .next (State.endsHere { s with stack := s.popped 1 :: s.popped 0 :: s.stack.drop 2 })

/-- 44_stack.md, decisions D6 and D4 (log entries 10 and 7): `:` pushes the top, 0 on the empty stack; at 512 bytes it
only records the overflow and advances. -/
def Obligations.DupPushesTop : Prop :=
  ∀ s : State,
    (s.stack.length < 512 → exec .dup s = .next (State.endsHere { s with stack := s.popped 0 :: s.stack })) ∧
    (s.stack.length = 512 → exec .dup s = .next s.endsHere.overflowed)

/-- R83. -/
def Obligations.DropRemovesTop : Prop :=
  decodeByte 0x24 = .drop ∧
  ∀ s : State, exec .drop s = .next (State.endsHere { s with stack := s.stack.drop 1 })

/-! ### Memory and flow -/

/-- R84 and R85: the byte of the cell (x, y), raw or hex-decoded, replaces the coordinates. -/
def Obligations.GetPushesCell : Prop :=
  (decodeByte 0x67 = .get ∧ decodeByte 0x47 = .getHex) ∧
  ∀ s : State, s.stack.length ≤ 512 →
    exec .get s = .next (State.endsHere { s with
      stack := memRead s (gridAddr (s.popped 0).toNat (s.popped 1).toNat) :: s.stack.drop 2 }) ∧
    exec .getHex s = .next (State.endsHere { s with
      stack := hexDecode (memRead s (gridAddr (s.popped 0).toNat (s.popped 1).toNat)) :: s.stack.drop 2 })

/-- R86 and R87: the third popped byte, raw or hex-decoded, goes to the cell (x, y); every other byte of the grid reads
as before and nothing else changes but the stack, the IP and ERR. -/
def Obligations.PutWritesOneCell : Prop :=
  (decodeByte 0x70 = .put ∧ decodeByte 0x50 = .putHex) ∧
  ∀ (s : State) (a : Fin 32768), gridAddr (s.popped 0).toNat (s.popped 1).toNat = a →
    (∃ t, exec .put s = .next t ∧ memRead t a = s.popped 2 ∧ (∀ b, b ≠ a → memRead t b = memRead s b) ∧
      { t with grid := s.grid } = State.endsHere { s with stack := s.stack.drop 3 }) ∧
    (∃ t, exec .putHex s = .next t ∧ memRead t a = hexDecode (s.popped 2) ∧
      (∀ b, b ≠ a → memRead t b = memRead s b) ∧
      { t with grid := s.grid } = State.endsHere { s with stack := s.stack.drop 3 })

/-- 20_memory.md section 6 (derived there from sequential order): the next fetch sees what `p` or `P` wrote. -/
def Obligations.NextFetchSeesTheWrite : Prop :=
  ∀ s t : State, gridAddr t.ipX.toNat t.ipY.toNat = gridAddr (s.popped 0).toNat (s.popped 1).toNat →
    (exec .put s = .next t → byteAtIp t = s.popped 2) ∧
    (exec .putHex s = .next t → byteAtIp t = hexDecode (s.popped 2))

/-- R88: two advances. -/
def Obligations.SkipMovesTwoCells : Prop :=
  decodeByte 0x23 = .skip ∧
  ∀ s : State, exec .skip s =
    .next (s.endsAt (advance s.ipX s.ipY s.dir).1 (advance s.ipX s.ipY s.dir).2 s.dir)

/-- 45_memory_flow.md section 2, decision D4 (log entry 7): `'` pushes the raw byte of the next cell and passes it; at
512 bytes the byte is lost and both advances still happen. -/
def Obligations.QuotePushesNextCell : Prop :=
  ∀ (s : State) (x y : Byte), advance s.ipX s.ipY s.dir = (x, y) →
    (s.stack.length < 512 → exec .quote s = .next
      (({ s with stack := memRead s (gridAddr x.toNat y.toNat) :: s.stack } : State).endsAt x y s.dir)) ∧
    (s.stack.length = 512 → exec .quote s = .next (s.endsAt x y s.dir).overflowed)

/-- R90: the IP becomes the popped coordinate and then advances; DIR is unchanged. -/
def Obligations.JumpSetsIpThenAdvances : Prop :=
  decodeByte 0x6A = .jump ∧
  ∀ s : State, exec .jump s =
    .next (({ s with stack := s.stack.drop 2 } : State).endsAt (s.popped 0) (s.popped 1) s.dir)

/-- 45_memory_flow.md section 3, decisions D20 and D4 (log entries 15 and 7): an unknown key is popped and no more; a
known one is replaced by y and then x + 1; at 512 bytes the x is lost. -/
def Obligations.LabelPushesCoordinate : Prop :=
  ∀ (s : State) (e : LabelEntry), labelOf s (s.popped 0) = e →
    (e.valid = false → exec .label s = .next (State.endsHere { s with stack := s.stack.drop 1 })) ∧
    (e.valid = true → s.stack.length < 512 → exec .label s = .next (State.endsHere { s with
      stack := BitVec.ofNat 8 (e.x.toNat + 1) :: BitVec.ofNat 8 e.y.toNat :: s.stack.drop 1 })) ∧
    (e.valid = true → s.stack.length = 512 → exec .label s = .next (State.overflowed (State.endsHere { s with
      stack := BitVec.ofNat 8 e.y.toNat :: s.stack.drop 1 })))

/-! ### Drawing and control -/

/-- R92: one cell lit, REDRAW set, every other cell and everything else but the stack, the IP and ERR as before. -/
def Obligations.PixelLightsOneCell : Prop :=
  decodeByte 0x2E = .pixel ∧
  ∀ s : State, ∃ t, exec .pixel s = .next t ∧
    (∀ a, fbRead t a = if a = fbAddr (s.popped 0).toNat (s.popped 1).toNat then 1 else fbRead s a) ∧
    { t with fb := s.fb } = State.endsHere { s with stack := s.stack.drop 2, redraw := true }

/-- 46_drawing.md section 2, decisions D10 and D11 (log entry 12): the closed form of a sprite line. -/
def Obligations.SpriteLineFromHexCells : Prop :=
  ∀ (s : State) (x1 y1 : Byte) (k : Nat) (hi lo : Byte), k < 8 →
    hexDecode (memRead s (gridAddr ((x1.toNat : Int) + 2 * k) y1.toNat)) = hi →
    hexDecode (memRead s (gridAddr ((x1.toNat : Int) + 2 * k + 1) y1.toNat)) = lo →
    (lo = 0xFF → spriteLine s x1 y1 k = 0xFF) ∧
    (lo ≠ 0xFF → (spriteLine s x1 y1 k).toNat = (hi.toNat % 16) * 16 + lo.toNat)

/-- R94: the 64 cells hold the bits of the eight lines, bit 7 leftmost, 0 or 1 alike; every other cell, and everything
else but the stack, REDRAW, the IP and ERR, as before. -/
def Obligations.SpriteOverwritesSixtyFourCells : Prop :=
  decodeByte 0x2C = .sprite ∧
  ∀ (s : State) (x1 y1 x2 y2 : Byte),
    s.popped 0 = x1 → s.popped 1 = y1 → s.popped 2 = x2 → s.popped 3 = y2 →
    ∃ t, exec .sprite s = .next t ∧
      (∀ k i : Nat, k < 8 → i < 8 → fbRead t (fbAddr ((x2.toNat : Int) + i) ((y2.toNat : Int) + k)) =
        BitVec.ofBool ((spriteLine s x1 y1 k).getLsbD (7 - i))) ∧
      (∀ a, (∀ k i : Nat, k < 8 → i < 8 → a ≠ fbAddr ((x2.toNat : Int) + i) ((y2.toNat : Int) + k)) →
        fbRead t a = fbRead s a) ∧
      { t with fb := s.fb } = State.endsHere { s with stack := s.stack.drop 4, redraw := true }

/-- R95: every cell 0, REDRAW set, everything else but the IP and ERR as before. -/
def Obligations.ClearDarkensEveryCell : Prop :=
  decodeByte 0x43 = .clear ∧
  ∀ s : State, ∃ t, exec .clear s = .next t ∧ (∀ a, fbRead t a = 0) ∧
    { t with fb := s.fb } = State.endsHere { s with redraw := true }

/-- R96: identical to the default no-op. -/
def Obligations.SpaceOnlyAdvances : Prop :=
  decodeByte 0x20 = .nopSpace ∧
  ∀ s : State, exec .nopSpace s = .next s.endsHere ∧ ∀ b, exec .nopSpace s = exec (.nopDefault b) s

/-- 47_control.md (its end coordinates are marked derived, 90_conflicts.md C4): `@` ends one cell from (0, 0) in
direction DIR with SHUTDOWN = 1, nothing else changed but ERR. -/
def Obligations.HaltShutsDownPastOrigin : Prop :=
  ∀ s : State, ∃ t, exec .halt s = .next t ∧ t = ({ s with shutdown := true } : State).endsAt 0 0 s.dir ∧
    (s.dir = .east → t.ipX = 1 ∧ t.ipY = 0) ∧ (s.dir = .west → t.ipX = 255 ∧ t.ipY = 0) ∧
    (s.dir = .south → t.ipX = 0 ∧ t.ipY = 1) ∧ (s.dir = .north → t.ipX = 0 ∧ t.ipY = 255)

/-- R63: each of the sixteen literals pushes its value; at 512 bytes the value is lost, the overflow is recorded, and the
step goes on. -/
def Obligations.HexLiteralsPushTheirValue : Prop :=
  ∀ (b : Byte) (i : Instr) (v : Byte),
    (b, i, v) ∈ ([(0x30, .pushHex0, 0), (0x31, .pushHex1, 1), (0x32, .pushHex2, 2), (0x33, .pushHex3, 3),
      (0x34, .pushHex4, 4), (0x35, .pushHex5, 5), (0x36, .pushHex6, 6), (0x37, .pushHex7, 7)]
      ++ [(0x38, .pushHex8, 8), (0x39, .pushHex9, 9), (0x61, .pushHexA, 10), (0x62, .pushHexB, 11),
      (0x63, .pushHexC, 12), (0x64, .pushHexD, 13), (0x65, .pushHexE, 14), (0x66, .pushHexF, 15)]
        : List (Byte × Instr × Byte)) →
    decodeByte b = i ∧ hexDecode b = v ∧ ∀ s : State,
      (s.stack.length < 512 → exec i s = .next (State.endsHere { s with stack := v :: s.stack })) ∧
      (s.stack.length = 512 → exec i s = .next s.endsHere.overflowed)

/-! ### Errors -/

/-- 60_exceptions.md section 1 (derived there): only a literal, `:`, `'` or `l` on a full stack can report an overflow. -/
def Obligations.OverflowOnlyFromFourKinds : Prop :=
  ∀ (i : Instr) (s t : State), s.stack.length ≤ 512 → exec i s = .next t → t.err = .stackOverflow →
    s.stack.length = 512 ∧
    i ∈ ([.pushHex0, .pushHex1, .pushHex2, .pushHex3, .pushHex4, .pushHex5, .pushHex6, .pushHex7]
      ++ [.pushHex8, .pushHex9, .pushHexA, .pushHexB, .pushHexC, .pushHexD, .pushHexE, .pushHexF]
      ++ [.dup, .quote, .label] : List Instr)

/-- 40_dispatch.md section 4 and 10_state.md section 6, decision D5 (log entry 9): ERR tells whether the step trapped or
overflowed, the sticky bits follow it, only DIV and MOD trap, and ERR's code is never 3. -/
def Obligations.ErrorReportsFollowTheStep : Prop :=
  (∀ (i : Instr) (s t : State), exec i s = .next t →
    (t.fault = true ↔ s.fault = true ∨ t.err = .divByZero) ∧
    (t.ovfSeen = true ↔ s.ovfSeen = true ∨ t.err = .stackOverflow) ∧
    (t.err = .divByZero ↔ (i = .div ∨ i = .mod) ∧ s.popped 1 = 0)) ∧
  (∀ e : ErrCode, errBits e ≠ 3) ∧ errBits .none = 0 ∧ errBits .stackOverflow = 1 ∧ errBits .divByZero = 2

/-! ### Whole-machine frames -/

/-- 10_state.md section 5: of the instructions only `.`, `,` and `C` write the framebuffer or REDRAW, and they set
REDRAW. -/
def Obligations.OnlyDrawingTouchesFramebuffer : Prop :=
  ∀ (i : Instr) (s t : State), exec i s = .next t →
    (i ∉ [.pixel, .sprite, .clear] → (∀ a, fbRead t a = fbRead s a) ∧ t.redraw = s.redraw) ∧
    (i ∈ [.pixel, .sprite, .clear] → t.redraw = true)

/-- 10_state.md sections 1, 4 and 5, 20_memory.md section 7: no instruction writes the label index or GAMEPAD, only `@`
writes SHUTDOWN and only to 1, and only `?` draws. -/
def Obligations.InstructionsLeaveHostStateAlone : Prop :=
  ∀ (i : Instr) (s t : State), exec i s = .next t →
    (∀ c, labelOf t c = labelOf s c) ∧ t.gamepad = s.gamepad ∧
    (i ≠ .halt → t.shutdown = s.shutdown) ∧ (i = .halt → t.shutdown = true) ∧
    (i ≠ .goRandom → t.draws = s.draws) ∧ (i = .goRandom → t.draws = s.draws + 1)

/-- The legal states of the block (10_state.md R11, R15, R16, R20 to R22; the canonical forms are the model's, log entry
2) are closed under steps. -/
def Obligations.StepKeepsLegal : Prop :=
  ∀ s t : State, s.Legal → step s = .next t → t.Legal

/-- The state after reset is legal (10_state.md section 9). -/
def Obligations.ResetIsLegal : Prop := State.reset.Legal

/-- The host's operations on a loaded or loading block keep it legal as well (10_state.md section 8). -/
def Obligations.HostOperationsKeepLegal : Prop :=
  ∀ s : State, s.Legal →
    (∀ a v, (loadWrite a v s).Legal) ∧ (labelScan s).Legal ∧ (redrawClear s).Legal ∧
    (∀ w, (gamepadWrite w s).Legal) ∧ (initBlock s).Legal ∧ (hostStep s).Legal

/-- 10_state.md section 2 (derived there): two states that differ only by 128 in IP.y step alike, for the same draw: the
two have the same draw counter, so a `?` draws the same value in both, which is the model's choice (log entry 3) and does
not say that two runs of the hardware draw alike (91_not_in_source.md N20). -/
def Obligations.RowAliasIsInvisible : Prop :=
  ∀ s t : State, sameRow s t → sameRowOutcome (step s) (step t)

/-- 10_state.md section 5 (derived there): the gamepad's value affects nothing else, for the same draw: the two steps have
the same draw counter, so a `?` draws the same value in both, which is the model's choice (log entry 3) and does not say
that two runs of the hardware draw alike (91_not_in_source.md N20). -/
def Obligations.GamepadAffectsNothing : Prop :=
  ∀ (s : State) (w : BitVec 16),
    step { s with gamepad := w } = mapNext (fun t => { t with gamepad := w }) (step s)

/-- 70_reset_and_hazards.md section 2 (derived there): over a row of 0x00, facing East, n steps move IP.x by n modulo
256 and change nothing else. -/
def Obligations.EmptyRowRunsEast : Prop :=
  ∀ (n : Nat) (s : State), s.fault = false → s.shutdown = false → s.dir = .east → s.err = .none →
    (∀ x : Byte, memRead s (gridAddr x.toNat s.ipY.toNat) = 0) →
    runSteps n s = .next { s with ipX := s.ipX + BitVec.ofNat 8 n }

/-! ### Label scan, loader, reset and the host -/

/-- R45: right after the scan every valid entry's two cells hold `;` and the key; that stays so until a `p` or `P` writes
one of the two. -/
def Obligations.ScannedLabelsMatchTheGrid : Prop :=
  (∀ (s : State) (c : Byte), (labelOf (labelScan s) c).valid = true → labelCellsMatch (labelScan s) c) ∧
  (∀ (i : Instr) (s t : State) (c : Byte), labelCellsMatch s c → exec i s = .next t →
    (i ≠ .put ∧ i ≠ .putHex ∨
      gridAddr (s.popped 0).toNat (s.popped 1).toNat ≠
          gridAddr (((labelOf s c).x.toNat : Int) - 1) (labelOf s c).y.toNat ∧
        gridAddr (s.popped 0).toNat (s.popped 1).toNat ≠ gridAddr (labelOf s c).x.toNat (labelOf s c).y.toNat) →
    labelCellsMatch t c)

/-- 20_memory.md section 7, decision D9 (log entry 11): the last `;` before a key, in row-major order, gives its entry; a
key with none is not valid; the scan changes nothing but the index. -/
def Obligations.LastLabelInScanOrderWins : Prop :=
  (∀ (s : State) (c : Byte) (x y : Nat), marksLabel s c x y →
    (∀ x' y', marksLabel s c x' y' → y' < y ∨ y' = y ∧ x' ≤ x) →
    labelOf (labelScan s) c = { valid := true, x := BitVec.ofNat 8 (x + 1), y := BitVec.ofNat 7 y }) ∧
  (∀ (s : State) (c : Byte), (∀ x y, ¬ marksLabel s c x y) → (labelOf (labelScan s) c).valid = false) ∧
  (∀ s : State, { labelScan s with labels := s.labels } = s)

/-- 20_memory.md section 8 (derived there): a well-formed ROM's line y stands in row y from column 0, with 0 in every
other cell. -/
def Obligations.LoaderPlacesLines : Prop :=
  ∀ (s : State) (lines : List (List Byte)) (last : List Byte), s.grid = [] →
    lines.length ≤ 128 → (last ≠ [] → lines.length ≤ 127) →
    (∀ l ∈ lines ++ [last], l.length ≤ 254 ∧ (0x0A : Byte) ∉ l) →
    ∀ x y : Nat, x < 256 → y < 128 →
      memRead (loadRom (romOf lines last) s) (gridAddr x y) = ((lines ++ [last]).getD y []).getD x 0

/-- 70_reset_and_hazards.md section 1 and 10_state.md section 9: INIT, from any state, gives every element its reset
value. ERR, OVF_SEEN and FAULT reset by decision D13 (log entry 9); the coordinates of invalid labels and the model's own
draw counter are left out. -/
def Obligations.InitResetsTheBlock : Prop :=
  ∀ s t : State, initBlock s = t →
    t.ipX = 0 ∧ t.ipY = 0 ∧ t.dir = .east ∧ t.stack = [] ∧ (∀ a, memRead t a = 0) ∧
    (∀ c, (labelOf t c).valid = false) ∧ (∀ a, fbRead t a = 0) ∧ t.shutdown = false ∧ t.redraw = false ∧
    t.gamepad = 0 ∧ t.err = .none ∧ t.ovfSeen = false ∧ t.fault = false

/-- 10_state.md section 8 and decision D16: what the host writes is stored and nothing else changes; what it reads is the
state. -/
def Obligations.HostReadsAndWritesFlags : Prop :=
  ∀ (s : State) (w : BitVec 16),
    gamepadWrite w s = { s with gamepad := w } ∧ redrawClear s = { s with redraw := false } ∧
    readFlags s = ⟨s.shutdown, s.redraw, errBits s.err, s.ovfSeen, s.fault⟩

/-- 60_exceptions.md sections 1 and 4, 70_reset_and_hazards.md sections 1 and 2, decision D14 (log entry 16; FB_READ above
4031, log entry 17): each move of the host, the phases it is made in, what it does to the block and the phase it leads to;
in every other phase it is refused. The phases are the model's. -/
def Obligations.HostKeepsTheLoadProtocol : Prop :=
  ∀ z : Session,
    hostMove .init z = .next (⟨initBlock z.block, .initialised⟩, .done) ∧
    (z.phase = .initialised ∨ z.phase = .loading →
      (∀ a v, hostMove (.loadWrite a v) z = .next (⟨memWrite z.block a v, .loading⟩, .done)) ∧
      hostMove .labelScan z = .next (⟨labelScan z.block, .loaded⟩, .done) ∧
      hostMove .romReadError z = .next (⟨z.block, .loadFailed⟩, .done)) ∧
    (z.phase ≠ .initialised → z.phase ≠ .loading →
      (∀ a v, hostMove (.loadWrite a v) z = .refused .hostOutOfTurn) ∧
      hostMove .labelScan z = .refused .hostOutOfTurn ∧ hostMove .romReadError z = .refused .hostOutOfTurn) ∧
    (z.phase = .initialised ∨ z.phase = .loaded ∨ z.phase = .running →
      (z.block.fault = false → z.block.shutdown = false → ∃ t, step z.block = .next t ∧
        hostMove .step z = .next (⟨t, .running⟩, .stepErr (errBits t.err))) ∧
      (z.block.fault = true ∨ z.block.shutdown = true →
        hostMove .step z = .next (⟨z.block, .running⟩, .stepErr (errBits z.block.err)))) ∧
    (z.phase ≠ .initialised → z.phase ≠ .loaded → z.phase ≠ .running →
      hostMove .step z = .refused .hostOutOfTurn) ∧
    (z.phase ≠ .powerOn →
      (∀ i b, fbReadView i z.block = some b → hostMove (.fbRead i) z = .next (z, .cell b)) ∧
      hostMove .readFlags z = .next (z, .flags (readFlags z.block)) ∧
      hostMove .redrawClear z = .next (⟨{ z.block with redraw := false }, z.phase⟩, .done) ∧
      ∀ w, hostMove (.gamepadWrite w) z = .next (⟨{ z.block with gamepad := w }, z.phase⟩, .done)) ∧
    (∀ i, fbReadView i z.block = none → hostMove (.fbRead i) z = .refused .fbIndexOutsideView) ∧
    (z.phase = .powerOn → ∀ m, m ≠ .init → ∃ r, hostMove m z = .refused r)
end

