-- ==== Sys2Proof/Laws/Cells.lean ====
section
/-! SUPPORT. Listed cells: a read after a write, and the canonical form every write keeps. The read laws hold of every
list, canonical or not. -/

namespace Sys2Proof.Machine

variable {α : Type}

@[simp] theorem cellRead_nil (d : α) (a : Nat) : cellRead d [] a = d := rfl

theorem cellRead_erase (d : α) (m : List (Nat × α)) (a b : Nat) :
    cellRead d (cellErase m a) b = if b = a then d else cellRead d m b := by
  induction m with
  | nil => simp [cellErase]
  | cons p m ih =>
    simp only [cellErase, ne_eq, decide_not] at ih ⊢
    by_cases hp : p.1 = a
    · simp only [hp, decide_true, Bool.not_true, Bool.false_eq_true, not_false_eq_true, List.filter_cons_of_neg, ih,
        cellRead]
      split_ifs <;> simp_all
    · simp only [hp, decide_false, Bool.not_false, List.filter_cons_of_pos, cellRead, ih]
      split_ifs <;> simp_all

theorem cellRead_insert (d : α) (m : List (Nat × α)) (a b : Nat) (v : α) (h : ∀ p ∈ m, p.1 ≠ a) :
    cellRead d (cellInsert a v m) b = if b = a then v else cellRead d m b := by
  induction m with
  | nil => simp only [cellInsert, cellRead, eq_comm]
  | cons p m ih =>
    have hp := h p (by simp)
    have ih := ih fun q hq => h q (by simp [hq])
    simp only [cellInsert]
    split
    · simp only [cellRead, eq_comm]
    · simp only [cellRead, ih]
      split_ifs <;> simp_all

theorem mem_cellErase {m : List (Nat × α)} {a : Nat} {p : Nat × α} : p ∈ cellErase m a ↔ p ∈ m ∧ p.1 ≠ a := by
  simp [cellErase]

/-- Read after write, of every list of cells. -/
theorem cellRead_write [DecidableEq α] (d : α) (m : List (Nat × α)) (a b : Nat) (v : α) :
    cellRead d (cellWrite d m a v) b = if b = a then v else cellRead d m b := by
  unfold cellWrite
  split
  · next h => rw [cellRead_erase, h]
  · rw [cellRead_insert _ _ _ _ _ fun p hp => (mem_cellErase.1 hp).2, cellRead_erase]
    split_ifs <;> rfl

theorem mem_cellInsert {m : List (Nat × α)} {a : Nat} {v : α} {p : Nat × α} :
    p ∈ cellInsert a v m ↔ p = (a, v) ∨ p ∈ m := by
  induction m with
  | nil => simp [cellInsert]
  | cons q m ih =>
    simp only [cellInsert]
    split
    · simp
    · simp only [List.mem_cons, ih]
      tauto

theorem cellErase_canonical {size : Nat} {d : α} {m : List (Nat × α)} (h : cellsCanonical size d m) (a : Nat) :
    cellsCanonical size d (cellErase m a) :=
  ⟨h.1.filter _, fun p hp => h.2 p (mem_cellErase.1 hp).1⟩

theorem cellInsert_pairwise {m : List (Nat × α)} {a : Nat} {v : α} (h : m.Pairwise fun p q => p.1 < q.1)
    (ha : ∀ p ∈ m, p.1 ≠ a) : (cellInsert a v m).Pairwise fun p q => p.1 < q.1 := by
  induction m with
  | nil => simp [cellInsert]
  | cons q m ih =>
    rw [List.pairwise_cons] at h
    have hq := ha q (by simp)
    simp only [cellInsert]
    split
    · next hlt =>
      refine List.pairwise_cons.2 ⟨fun p hp => ?_, List.pairwise_cons.2 h⟩
      rcases List.mem_cons.1 hp with rfl | hp
      · exact hlt
      · exact hlt.trans (h.1 p hp)
    · next hge =>
      refine List.pairwise_cons.2 ⟨fun p hp => ?_, ih h.2 fun p hp => ha p (by simp [hp])⟩
      rcases mem_cellInsert.1 hp with rfl | hp
      · dsimp only at hge hq ⊢
        omega
      · exact h.1 p hp

/-- A write inside the space keeps the canonical form. -/
theorem cellWrite_canonical [DecidableEq α] {size : Nat} {d : α} {m : List (Nat × α)} (h : cellsCanonical size d m)
    {a : Nat} (ha : a < size) (v : α) : cellsCanonical size d (cellWrite d m a v) := by
  unfold cellWrite
  split
  · exact cellErase_canonical h a
  · next hv =>
    have he := cellErase_canonical h a
    refine ⟨cellInsert_pairwise he.1 fun p hp => (mem_cellErase.1 hp).2, fun p hp => ?_⟩
    rcases mem_cellInsert.1 hp with rfl | hp
    · exact ⟨ha, hv⟩
    · exact he.2 p hp

/-- Two canonical lists that read alike everywhere are the same list. -/
theorem cells_ext {size : Nat} {d : α} {m n : List (Nat × α)} (hm : cellsCanonical size d m)
    (hn : cellsCanonical size d n) (h : ∀ a < size, cellRead d m a = cellRead d n a) : m = n := by
  have low : ∀ {l : List (Nat × α)} {a : Nat}, (∀ p ∈ l, a < p.1) → cellRead d l a = d := by
    intro l a hl
    induction l with
    | nil => rfl
    | cons p l ih =>
      have := hl p (by simp)
      rw [show cellRead d (p :: l) a = if p.1 = a then p.2 else cellRead d l a from rfl, if_neg (by omega)]
      exact ih fun q hq => hl q (by simp [hq])
  have hd : ∀ (p : Nat × α) (l : List (Nat × α)), cellRead d (p :: l) p.1 = p.2 := fun p l => if_pos rfl
  induction m generalizing n with
  | nil =>
    cases n with
    | nil => rfl
    | cons q n =>
      have hq := hn.2 q (by simp)
      exact absurd ((hd q n).symm.trans (h q.1 hq.1).symm) hq.2
  | cons p m ih =>
    have hp := hm.2 p (by simp)
    have hpm := List.pairwise_cons.1 hm.1
    cases n with
    | nil => exact absurd ((hd p m).symm.trans (h p.1 hp.1)) hp.2
    | cons q n =>
      have hq := hn.2 q (by simp)
      have hqn := List.pairwise_cons.1 hn.1
      have h1 : p.1 = q.1 := by
        rcases Nat.lt_trichotomy p.1 q.1 with hlt | heq | hgt
        · refine absurd ((hd p m).symm.trans ((h p.1 hp.1).trans (low fun r hr => ?_))) hp.2
          rcases List.mem_cons.1 hr with rfl | hr
          · exact hlt
          · exact hlt.trans (hqn.1 r hr)
        · exact heq
        · refine absurd ((hd q n).symm.trans ((h q.1 hq.1).symm.trans (low fun r hr => ?_))) hq.2
          rcases List.mem_cons.1 hr with rfl | hr
          · exact hgt
          · exact hgt.trans (hpm.1 r hr)
      have h2 : p.2 = q.2 := by
        have := (hd p m).symm.trans (h p.1 hp.1)
        rw [h1] at this
        exact this.trans (hd q n)
      have h3 : m = n := by
        refine ih ⟨hpm.2, fun r hr => hm.2 r (by simp [hr])⟩ ⟨hqn.2, fun r hr => hn.2 r (by simp [hr])⟩ fun a ha => ?_
        have := h a ha
        rw [show cellRead d (p :: m) a = if p.1 = a then p.2 else cellRead d m a from rfl,
          show cellRead d (q :: n) a = if q.1 = a then q.2 else cellRead d n a from rfl, ← h1] at this
        by_cases hpa : p.1 = a
        · rw [low (l := m) fun r hr => hpa ▸ hpm.1 r hr, low (l := n) fun r hr => hpa ▸ h1 ▸ hqn.1 r hr]
        · rwa [if_neg hpa, if_neg hpa] at this
      rw [Prod.ext h1 h2, h3]

end Sys2Proof.Machine
end

