-- ==== Sys2Proof/Laws/State.lean ====
section
/-! SUPPORT. One lemma per field per named update of State, so that no proof unfolds a record update. -/

namespace Sys2Proof.Machine.State

variable (s : State)

@[simp] theorem withIp_ipX (x y : Byte) : (s.withIp x y).ipX = x := rfl
@[simp] theorem withIp_ipY (x y : Byte) : (s.withIp x y).ipY = y := rfl
@[simp] theorem withIp_dir (x y : Byte) : (s.withIp x y).dir = s.dir := rfl
@[simp] theorem withIp_stack (x y : Byte) : (s.withIp x y).stack = s.stack := rfl
@[simp] theorem withIp_grid (x y : Byte) : (s.withIp x y).grid = s.grid := rfl
@[simp] theorem withIp_labels (x y : Byte) : (s.withIp x y).labels = s.labels := rfl
@[simp] theorem withIp_fb (x y : Byte) : (s.withIp x y).fb = s.fb := rfl
@[simp] theorem withIp_shutdown (x y : Byte) : (s.withIp x y).shutdown = s.shutdown := rfl
@[simp] theorem withIp_redraw (x y : Byte) : (s.withIp x y).redraw = s.redraw := rfl
@[simp] theorem withIp_gamepad (x y : Byte) : (s.withIp x y).gamepad = s.gamepad := rfl
@[simp] theorem withIp_err (x y : Byte) : (s.withIp x y).err = s.err := rfl
@[simp] theorem withIp_ovfSeen (x y : Byte) : (s.withIp x y).ovfSeen = s.ovfSeen := rfl
@[simp] theorem withIp_fault (x y : Byte) : (s.withIp x y).fault = s.fault := rfl
@[simp] theorem withIp_draws (x y : Byte) : (s.withIp x y).draws = s.draws := rfl

@[simp] theorem withDir_ipX (d : Dir) : (s.withDir d).ipX = s.ipX := rfl
@[simp] theorem withDir_ipY (d : Dir) : (s.withDir d).ipY = s.ipY := rfl
@[simp] theorem withDir_dir (d : Dir) : (s.withDir d).dir = d := rfl
@[simp] theorem withDir_stack (d : Dir) : (s.withDir d).stack = s.stack := rfl
@[simp] theorem withDir_grid (d : Dir) : (s.withDir d).grid = s.grid := rfl
@[simp] theorem withDir_labels (d : Dir) : (s.withDir d).labels = s.labels := rfl
@[simp] theorem withDir_fb (d : Dir) : (s.withDir d).fb = s.fb := rfl
@[simp] theorem withDir_shutdown (d : Dir) : (s.withDir d).shutdown = s.shutdown := rfl
@[simp] theorem withDir_redraw (d : Dir) : (s.withDir d).redraw = s.redraw := rfl
@[simp] theorem withDir_gamepad (d : Dir) : (s.withDir d).gamepad = s.gamepad := rfl
@[simp] theorem withDir_err (d : Dir) : (s.withDir d).err = s.err := rfl
@[simp] theorem withDir_ovfSeen (d : Dir) : (s.withDir d).ovfSeen = s.ovfSeen := rfl
@[simp] theorem withDir_fault (d : Dir) : (s.withDir d).fault = s.fault := rfl
@[simp] theorem withDir_draws (d : Dir) : (s.withDir d).draws = s.draws := rfl

@[simp] theorem withStack_ipX (st : List Byte) : (s.withStack st).ipX = s.ipX := rfl
@[simp] theorem withStack_ipY (st : List Byte) : (s.withStack st).ipY = s.ipY := rfl
@[simp] theorem withStack_dir (st : List Byte) : (s.withStack st).dir = s.dir := rfl
@[simp] theorem withStack_stack (st : List Byte) : (s.withStack st).stack = st := rfl
@[simp] theorem withStack_grid (st : List Byte) : (s.withStack st).grid = s.grid := rfl
@[simp] theorem withStack_labels (st : List Byte) : (s.withStack st).labels = s.labels := rfl
@[simp] theorem withStack_fb (st : List Byte) : (s.withStack st).fb = s.fb := rfl
@[simp] theorem withStack_shutdown (st : List Byte) : (s.withStack st).shutdown = s.shutdown := rfl
@[simp] theorem withStack_redraw (st : List Byte) : (s.withStack st).redraw = s.redraw := rfl
@[simp] theorem withStack_gamepad (st : List Byte) : (s.withStack st).gamepad = s.gamepad := rfl
@[simp] theorem withStack_err (st : List Byte) : (s.withStack st).err = s.err := rfl
@[simp] theorem withStack_ovfSeen (st : List Byte) : (s.withStack st).ovfSeen = s.ovfSeen := rfl
@[simp] theorem withStack_fault (st : List Byte) : (s.withStack st).fault = s.fault := rfl
@[simp] theorem withStack_draws (st : List Byte) : (s.withStack st).draws = s.draws := rfl

@[simp] theorem withGrid_ipX (m : Memory) : (s.withGrid m).ipX = s.ipX := rfl
@[simp] theorem withGrid_ipY (m : Memory) : (s.withGrid m).ipY = s.ipY := rfl
@[simp] theorem withGrid_dir (m : Memory) : (s.withGrid m).dir = s.dir := rfl
@[simp] theorem withGrid_stack (m : Memory) : (s.withGrid m).stack = s.stack := rfl
@[simp] theorem withGrid_grid (m : Memory) : (s.withGrid m).grid = m := rfl
@[simp] theorem withGrid_labels (m : Memory) : (s.withGrid m).labels = s.labels := rfl
@[simp] theorem withGrid_fb (m : Memory) : (s.withGrid m).fb = s.fb := rfl
@[simp] theorem withGrid_shutdown (m : Memory) : (s.withGrid m).shutdown = s.shutdown := rfl
@[simp] theorem withGrid_redraw (m : Memory) : (s.withGrid m).redraw = s.redraw := rfl
@[simp] theorem withGrid_gamepad (m : Memory) : (s.withGrid m).gamepad = s.gamepad := rfl
@[simp] theorem withGrid_err (m : Memory) : (s.withGrid m).err = s.err := rfl
@[simp] theorem withGrid_ovfSeen (m : Memory) : (s.withGrid m).ovfSeen = s.ovfSeen := rfl
@[simp] theorem withGrid_fault (m : Memory) : (s.withGrid m).fault = s.fault := rfl
@[simp] theorem withGrid_draws (m : Memory) : (s.withGrid m).draws = s.draws := rfl

@[simp] theorem withLabels_ipX (l : Vector LabelEntry 256) : (s.withLabels l).ipX = s.ipX := rfl
@[simp] theorem withLabels_ipY (l : Vector LabelEntry 256) : (s.withLabels l).ipY = s.ipY := rfl
@[simp] theorem withLabels_dir (l : Vector LabelEntry 256) : (s.withLabels l).dir = s.dir := rfl
@[simp] theorem withLabels_stack (l : Vector LabelEntry 256) : (s.withLabels l).stack = s.stack := rfl
@[simp] theorem withLabels_grid (l : Vector LabelEntry 256) : (s.withLabels l).grid = s.grid := rfl
@[simp] theorem withLabels_labels (l : Vector LabelEntry 256) : (s.withLabels l).labels = l := rfl
@[simp] theorem withLabels_fb (l : Vector LabelEntry 256) : (s.withLabels l).fb = s.fb := rfl
@[simp] theorem withLabels_shutdown (l : Vector LabelEntry 256) : (s.withLabels l).shutdown = s.shutdown := rfl
@[simp] theorem withLabels_redraw (l : Vector LabelEntry 256) : (s.withLabels l).redraw = s.redraw := rfl
@[simp] theorem withLabels_gamepad (l : Vector LabelEntry 256) : (s.withLabels l).gamepad = s.gamepad := rfl
@[simp] theorem withLabels_err (l : Vector LabelEntry 256) : (s.withLabels l).err = s.err := rfl
@[simp] theorem withLabels_ovfSeen (l : Vector LabelEntry 256) : (s.withLabels l).ovfSeen = s.ovfSeen := rfl
@[simp] theorem withLabels_fault (l : Vector LabelEntry 256) : (s.withLabels l).fault = s.fault := rfl
@[simp] theorem withLabels_draws (l : Vector LabelEntry 256) : (s.withLabels l).draws = s.draws := rfl

@[simp] theorem withFb_ipX (f : Frame) : (s.withFb f).ipX = s.ipX := rfl
@[simp] theorem withFb_ipY (f : Frame) : (s.withFb f).ipY = s.ipY := rfl
@[simp] theorem withFb_dir (f : Frame) : (s.withFb f).dir = s.dir := rfl
@[simp] theorem withFb_stack (f : Frame) : (s.withFb f).stack = s.stack := rfl
@[simp] theorem withFb_grid (f : Frame) : (s.withFb f).grid = s.grid := rfl
@[simp] theorem withFb_labels (f : Frame) : (s.withFb f).labels = s.labels := rfl
@[simp] theorem withFb_fb (f : Frame) : (s.withFb f).fb = f := rfl
@[simp] theorem withFb_shutdown (f : Frame) : (s.withFb f).shutdown = s.shutdown := rfl
@[simp] theorem withFb_redraw (f : Frame) : (s.withFb f).redraw = s.redraw := rfl
@[simp] theorem withFb_gamepad (f : Frame) : (s.withFb f).gamepad = s.gamepad := rfl
@[simp] theorem withFb_err (f : Frame) : (s.withFb f).err = s.err := rfl
@[simp] theorem withFb_ovfSeen (f : Frame) : (s.withFb f).ovfSeen = s.ovfSeen := rfl
@[simp] theorem withFb_fault (f : Frame) : (s.withFb f).fault = s.fault := rfl
@[simp] theorem withFb_draws (f : Frame) : (s.withFb f).draws = s.draws := rfl

@[simp] theorem withShutdown_ipX (b : Bool) : (s.withShutdown b).ipX = s.ipX := rfl
@[simp] theorem withShutdown_ipY (b : Bool) : (s.withShutdown b).ipY = s.ipY := rfl
@[simp] theorem withShutdown_dir (b : Bool) : (s.withShutdown b).dir = s.dir := rfl
@[simp] theorem withShutdown_stack (b : Bool) : (s.withShutdown b).stack = s.stack := rfl
@[simp] theorem withShutdown_grid (b : Bool) : (s.withShutdown b).grid = s.grid := rfl
@[simp] theorem withShutdown_labels (b : Bool) : (s.withShutdown b).labels = s.labels := rfl
@[simp] theorem withShutdown_fb (b : Bool) : (s.withShutdown b).fb = s.fb := rfl
@[simp] theorem withShutdown_shutdown (b : Bool) : (s.withShutdown b).shutdown = b := rfl
@[simp] theorem withShutdown_redraw (b : Bool) : (s.withShutdown b).redraw = s.redraw := rfl
@[simp] theorem withShutdown_gamepad (b : Bool) : (s.withShutdown b).gamepad = s.gamepad := rfl
@[simp] theorem withShutdown_err (b : Bool) : (s.withShutdown b).err = s.err := rfl
@[simp] theorem withShutdown_ovfSeen (b : Bool) : (s.withShutdown b).ovfSeen = s.ovfSeen := rfl
@[simp] theorem withShutdown_fault (b : Bool) : (s.withShutdown b).fault = s.fault := rfl
@[simp] theorem withShutdown_draws (b : Bool) : (s.withShutdown b).draws = s.draws := rfl

@[simp] theorem withRedraw_ipX (b : Bool) : (s.withRedraw b).ipX = s.ipX := rfl
@[simp] theorem withRedraw_ipY (b : Bool) : (s.withRedraw b).ipY = s.ipY := rfl
@[simp] theorem withRedraw_dir (b : Bool) : (s.withRedraw b).dir = s.dir := rfl
@[simp] theorem withRedraw_stack (b : Bool) : (s.withRedraw b).stack = s.stack := rfl
@[simp] theorem withRedraw_grid (b : Bool) : (s.withRedraw b).grid = s.grid := rfl
@[simp] theorem withRedraw_labels (b : Bool) : (s.withRedraw b).labels = s.labels := rfl
@[simp] theorem withRedraw_fb (b : Bool) : (s.withRedraw b).fb = s.fb := rfl
@[simp] theorem withRedraw_shutdown (b : Bool) : (s.withRedraw b).shutdown = s.shutdown := rfl
@[simp] theorem withRedraw_redraw (b : Bool) : (s.withRedraw b).redraw = b := rfl
@[simp] theorem withRedraw_gamepad (b : Bool) : (s.withRedraw b).gamepad = s.gamepad := rfl
@[simp] theorem withRedraw_err (b : Bool) : (s.withRedraw b).err = s.err := rfl
@[simp] theorem withRedraw_ovfSeen (b : Bool) : (s.withRedraw b).ovfSeen = s.ovfSeen := rfl
@[simp] theorem withRedraw_fault (b : Bool) : (s.withRedraw b).fault = s.fault := rfl
@[simp] theorem withRedraw_draws (b : Bool) : (s.withRedraw b).draws = s.draws := rfl

@[simp] theorem withGamepad_ipX (w : BitVec 16) : (s.withGamepad w).ipX = s.ipX := rfl
@[simp] theorem withGamepad_ipY (w : BitVec 16) : (s.withGamepad w).ipY = s.ipY := rfl
@[simp] theorem withGamepad_dir (w : BitVec 16) : (s.withGamepad w).dir = s.dir := rfl
@[simp] theorem withGamepad_stack (w : BitVec 16) : (s.withGamepad w).stack = s.stack := rfl
@[simp] theorem withGamepad_grid (w : BitVec 16) : (s.withGamepad w).grid = s.grid := rfl
@[simp] theorem withGamepad_labels (w : BitVec 16) : (s.withGamepad w).labels = s.labels := rfl
@[simp] theorem withGamepad_fb (w : BitVec 16) : (s.withGamepad w).fb = s.fb := rfl
@[simp] theorem withGamepad_shutdown (w : BitVec 16) : (s.withGamepad w).shutdown = s.shutdown := rfl
@[simp] theorem withGamepad_redraw (w : BitVec 16) : (s.withGamepad w).redraw = s.redraw := rfl
@[simp] theorem withGamepad_gamepad (w : BitVec 16) : (s.withGamepad w).gamepad = w := rfl
@[simp] theorem withGamepad_err (w : BitVec 16) : (s.withGamepad w).err = s.err := rfl
@[simp] theorem withGamepad_ovfSeen (w : BitVec 16) : (s.withGamepad w).ovfSeen = s.ovfSeen := rfl
@[simp] theorem withGamepad_fault (w : BitVec 16) : (s.withGamepad w).fault = s.fault := rfl
@[simp] theorem withGamepad_draws (w : BitVec 16) : (s.withGamepad w).draws = s.draws := rfl

@[simp] theorem withErr_ipX (e : ErrCode) : (s.withErr e).ipX = s.ipX := rfl
@[simp] theorem withErr_ipY (e : ErrCode) : (s.withErr e).ipY = s.ipY := rfl
@[simp] theorem withErr_dir (e : ErrCode) : (s.withErr e).dir = s.dir := rfl
@[simp] theorem withErr_stack (e : ErrCode) : (s.withErr e).stack = s.stack := rfl
@[simp] theorem withErr_grid (e : ErrCode) : (s.withErr e).grid = s.grid := rfl
@[simp] theorem withErr_labels (e : ErrCode) : (s.withErr e).labels = s.labels := rfl
@[simp] theorem withErr_fb (e : ErrCode) : (s.withErr e).fb = s.fb := rfl
@[simp] theorem withErr_shutdown (e : ErrCode) : (s.withErr e).shutdown = s.shutdown := rfl
@[simp] theorem withErr_redraw (e : ErrCode) : (s.withErr e).redraw = s.redraw := rfl
@[simp] theorem withErr_gamepad (e : ErrCode) : (s.withErr e).gamepad = s.gamepad := rfl
@[simp] theorem withErr_err (e : ErrCode) : (s.withErr e).err = e := rfl
@[simp] theorem withErr_ovfSeen (e : ErrCode) : (s.withErr e).ovfSeen = s.ovfSeen := rfl
@[simp] theorem withErr_fault (e : ErrCode) : (s.withErr e).fault = s.fault := rfl
@[simp] theorem withErr_draws (e : ErrCode) : (s.withErr e).draws = s.draws := rfl

@[simp] theorem withOvfSeen_ipX (b : Bool) : (s.withOvfSeen b).ipX = s.ipX := rfl
@[simp] theorem withOvfSeen_ipY (b : Bool) : (s.withOvfSeen b).ipY = s.ipY := rfl
@[simp] theorem withOvfSeen_dir (b : Bool) : (s.withOvfSeen b).dir = s.dir := rfl
@[simp] theorem withOvfSeen_stack (b : Bool) : (s.withOvfSeen b).stack = s.stack := rfl
@[simp] theorem withOvfSeen_grid (b : Bool) : (s.withOvfSeen b).grid = s.grid := rfl
@[simp] theorem withOvfSeen_labels (b : Bool) : (s.withOvfSeen b).labels = s.labels := rfl
@[simp] theorem withOvfSeen_fb (b : Bool) : (s.withOvfSeen b).fb = s.fb := rfl
@[simp] theorem withOvfSeen_shutdown (b : Bool) : (s.withOvfSeen b).shutdown = s.shutdown := rfl
@[simp] theorem withOvfSeen_redraw (b : Bool) : (s.withOvfSeen b).redraw = s.redraw := rfl
@[simp] theorem withOvfSeen_gamepad (b : Bool) : (s.withOvfSeen b).gamepad = s.gamepad := rfl
@[simp] theorem withOvfSeen_err (b : Bool) : (s.withOvfSeen b).err = s.err := rfl
@[simp] theorem withOvfSeen_ovfSeen (b : Bool) : (s.withOvfSeen b).ovfSeen = b := rfl
@[simp] theorem withOvfSeen_fault (b : Bool) : (s.withOvfSeen b).fault = s.fault := rfl
@[simp] theorem withOvfSeen_draws (b : Bool) : (s.withOvfSeen b).draws = s.draws := rfl

@[simp] theorem withFault_ipX (b : Bool) : (s.withFault b).ipX = s.ipX := rfl
@[simp] theorem withFault_ipY (b : Bool) : (s.withFault b).ipY = s.ipY := rfl
@[simp] theorem withFault_dir (b : Bool) : (s.withFault b).dir = s.dir := rfl
@[simp] theorem withFault_stack (b : Bool) : (s.withFault b).stack = s.stack := rfl
@[simp] theorem withFault_grid (b : Bool) : (s.withFault b).grid = s.grid := rfl
@[simp] theorem withFault_labels (b : Bool) : (s.withFault b).labels = s.labels := rfl
@[simp] theorem withFault_fb (b : Bool) : (s.withFault b).fb = s.fb := rfl
@[simp] theorem withFault_shutdown (b : Bool) : (s.withFault b).shutdown = s.shutdown := rfl
@[simp] theorem withFault_redraw (b : Bool) : (s.withFault b).redraw = s.redraw := rfl
@[simp] theorem withFault_gamepad (b : Bool) : (s.withFault b).gamepad = s.gamepad := rfl
@[simp] theorem withFault_err (b : Bool) : (s.withFault b).err = s.err := rfl
@[simp] theorem withFault_ovfSeen (b : Bool) : (s.withFault b).ovfSeen = s.ovfSeen := rfl
@[simp] theorem withFault_fault (b : Bool) : (s.withFault b).fault = b := rfl
@[simp] theorem withFault_draws (b : Bool) : (s.withFault b).draws = s.draws := rfl

@[simp] theorem withDraws_ipX (n : Nat) : (s.withDraws n).ipX = s.ipX := rfl
@[simp] theorem withDraws_ipY (n : Nat) : (s.withDraws n).ipY = s.ipY := rfl
@[simp] theorem withDraws_dir (n : Nat) : (s.withDraws n).dir = s.dir := rfl
@[simp] theorem withDraws_stack (n : Nat) : (s.withDraws n).stack = s.stack := rfl
@[simp] theorem withDraws_grid (n : Nat) : (s.withDraws n).grid = s.grid := rfl
@[simp] theorem withDraws_labels (n : Nat) : (s.withDraws n).labels = s.labels := rfl
@[simp] theorem withDraws_fb (n : Nat) : (s.withDraws n).fb = s.fb := rfl
@[simp] theorem withDraws_shutdown (n : Nat) : (s.withDraws n).shutdown = s.shutdown := rfl
@[simp] theorem withDraws_redraw (n : Nat) : (s.withDraws n).redraw = s.redraw := rfl
@[simp] theorem withDraws_gamepad (n : Nat) : (s.withDraws n).gamepad = s.gamepad := rfl
@[simp] theorem withDraws_err (n : Nat) : (s.withDraws n).err = s.err := rfl
@[simp] theorem withDraws_ovfSeen (n : Nat) : (s.withDraws n).ovfSeen = s.ovfSeen := rfl
@[simp] theorem withDraws_fault (n : Nat) : (s.withDraws n).fault = s.fault := rfl
@[simp] theorem withDraws_draws (n : Nat) : (s.withDraws n).draws = n := rfl

end Sys2Proof.Machine.State
end

