-- ==== Sys2Proof/Laws/Ops.lean ====
section
/-! SUPPORT. What each shared operation can do, said once: truncation, addresses, grid and framebuffer, the stack, the
operand forms, the IP, the label index and the frame of a step. -/

namespace Sys2Proof.Machine

/-! ### Truncation and addresses -/

theorem toNat_trunc8 (v : Int) : ((trunc8 v).toNat : Int) = v % 256 := by
  simp only [trunc8, BitVec.toNat_ofInt]
  omega

theorem trunc8_add (a b : Byte) : trunc8 ((a.toNat : Int) + b.toNat) = a + b := by
  refine BitVec.eq_of_toNat_eq (Int.ofNat.inj ?_)
  simp only [Int.ofNat_eq_natCast, toNat_trunc8, BitVec.toNat_add]
  omega

theorem trunc8_sub (a b : Byte) : trunc8 ((a.toNat : Int) - b.toNat) = a - b := by
  refine BitVec.eq_of_toNat_eq (Int.ofNat.inj ?_)
  have := a.isLt
  have := b.isLt
  simp only [Int.ofNat_eq_natCast, toNat_trunc8, BitVec.toNat_sub]
  omega

theorem trunc8_mul (a b : Byte) : trunc8 ((a.toNat : Int) * b.toNat) = a * b := by
  refine BitVec.eq_of_toNat_eq (Int.ofNat.inj ?_)
  simp only [Int.ofNat_eq_natCast, toNat_trunc8, BitVec.toNat_mul]
  norm_cast

theorem trunc8_natCast (n : Nat) : trunc8 (n : Int) = BitVec.ofNat 8 n := by
  refine BitVec.eq_of_toNat_eq (Int.ofNat.inj ?_)
  simp only [Int.ofNat_eq_natCast, toNat_trunc8, BitVec.toNat_ofNat]
  omega

theorem gridAddr_val (x y : Int) : ((gridAddr x y).val : Int) = (y % 128) * 256 + x % 256 := by
  simp only [gridAddr]
  omega

theorem fbAddr_val (x y : Int) : ((fbAddr x y).val : Int) = (y % 48) * 84 + x % 84 := by
  simp only [fbAddr]
  omega

theorem gridAddr_eq_iff (x y x' y' : Int) : gridAddr x y = gridAddr x' y' ↔ x % 256 = x' % 256 ∧ y % 128 = y' % 128 := by
  simp only [Fin.ext_iff, gridAddr]
  omega

theorem fbAddr_eq_iff (x y x' y' : Int) : fbAddr x y = fbAddr x' y' ↔ x % 84 = x' % 84 ∧ y % 48 = y' % 48 := by
  simp only [Fin.ext_iff, fbAddr]
  omega

/-! ### Grid and framebuffer -/

theorem memRead_congr {s t : State} (h : s.grid = t.grid) (a : Fin 32768) : memRead s a = memRead t a := by
  rw [memRead, memRead, h]

theorem fbRead_congr {s t : State} (h : s.fb = t.fb) (a : Fin 4032) : fbRead s a = fbRead t a := by
  rw [fbRead, fbRead, h]

theorem frameRead_frameWrite (f : Frame) (x y : Int) (bit : Bit) (a : Fin 4032) :
    frameRead (frameWrite f x y bit) a = if a = fbAddr x y then bit else frameRead f a := by
  simp only [frameRead, frameWrite, cellRead_write, Fin.ext_iff]

theorem memRead_memWrite (s : State) (a b : Fin 32768) (v : Byte) :
    memRead (memWrite s a v) b = if b = a then v else memRead s b := by
  simp only [memRead, memWrite, State.withGrid_grid, cellRead_write, Fin.ext_iff]

theorem fbRead_fbWrite (s : State) (x y : Int) (bit : Bit) (a : Fin 4032) :
    fbRead (fbWrite s x y bit) a = if a = fbAddr x y then bit else fbRead s a :=
  frameRead_frameWrite s.fb x y bit a

theorem fbRead_fbClear (s : State) (a : Fin 4032) : fbRead (fbClear s) a = 0 := rfl

theorem memWrite_wf {s : State} (h : s.grid.wf) (a : Fin 32768) (v : Byte) : (memWrite s a v).grid.wf :=
  cellWrite_canonical h a.isLt v

theorem frameWrite_wf {f : Frame} (h : f.wf) (x y : Int) (bit : Bit) : (frameWrite f x y bit).wf :=
  cellWrite_canonical h (fbAddr x y).isLt bit

theorem fbWrite_wf {s : State} (h : s.fb.wf) (x y : Int) (bit : Bit) : (fbWrite s x y bit).fb.wf :=
  frameWrite_wf h x y bit

theorem fbClear_wf (s : State) : (fbClear s).fb.wf := ⟨List.Pairwise.nil, fun _ h => nomatch h⟩

theorem reset_grid_wf : State.reset.grid.wf := ⟨List.Pairwise.nil, fun _ h => nomatch h⟩

theorem reset_fb_wf : State.reset.fb.wf := ⟨List.Pairwise.nil, fun _ h => nomatch h⟩

/-! ### Stack and operands -/

theorem push_of_lt {s : State} (h : s.stack.length < 512) (v : Byte) : push v s = s.withStack (v :: s.stack) := if_pos h

theorem push_of_full {s : State} (h : 512 ≤ s.stack.length) (v : Byte) : push v s = raiseStackOverflow s :=
  if_neg (by omega)

/-- A push changes the stack, ERR and OVF_SEEN at most. -/
theorem push_cases (v : Byte) (s : State) :
    (s.stack.length < 512 ∧ push v s = s.withStack (v :: s.stack)) ∨
      (512 ≤ s.stack.length ∧ push v s = (s.withErr .stackOverflow).withOvfSeen true) := by
  rcases Nat.lt_or_ge s.stack.length 512 with h | h
  · exact .inl ⟨h, push_of_lt h v⟩
  · exact .inr ⟨h, push_of_full h v⟩

@[simp] theorem push_ipX (v : Byte) (s : State) : (push v s).ipX = s.ipX := by unfold push; split <;> rfl
@[simp] theorem push_ipY (v : Byte) (s : State) : (push v s).ipY = s.ipY := by unfold push; split <;> rfl
@[simp] theorem push_dir (v : Byte) (s : State) : (push v s).dir = s.dir := by unfold push; split <;> rfl
@[simp] theorem push_grid (v : Byte) (s : State) : (push v s).grid = s.grid := by unfold push; split <;> rfl
@[simp] theorem push_labels (v : Byte) (s : State) : (push v s).labels = s.labels := by unfold push; split <;> rfl
@[simp] theorem push_fb (v : Byte) (s : State) : (push v s).fb = s.fb := by unfold push; split <;> rfl
@[simp] theorem push_shutdown (v : Byte) (s : State) : (push v s).shutdown = s.shutdown := by unfold push; split <;> rfl
@[simp] theorem push_redraw (v : Byte) (s : State) : (push v s).redraw = s.redraw := by unfold push; split <;> rfl
@[simp] theorem push_gamepad (v : Byte) (s : State) : (push v s).gamepad = s.gamepad := by unfold push; split <;> rfl
@[simp] theorem push_fault (v : Byte) (s : State) : (push v s).fault = s.fault := by unfold push; split <;> rfl
@[simp] theorem push_draws (v : Byte) (s : State) : (push v s).draws = s.draws := by unfold push; split <;> rfl

theorem peek_eq (s : State) : peek s = s.popped 0 := by
  cases h : s.stack <;> simp [peek, State.popped, h]

theorem pop_eq (s : State) : pop s = (s.popped 0, s.withStack (s.stack.drop 1)) := by
  rcases h : s.stack with _ | ⟨v, r⟩ <;> simp [pop, peek, State.popped, h]

theorem pop2_eq (s : State) : pop2 s = (s.popped 0, s.popped 1, s.withStack (s.stack.drop 2)) := by
  rcases h : s.stack with _ | ⟨v, _ | ⟨w, r⟩⟩ <;> simp [pop2, pop_eq, State.popped, h, State.withStack]

theorem pop3_eq (s : State) :
    pop3 s = (s.popped 0, s.popped 1, s.popped 2, s.withStack (s.stack.drop 3)) := by
  rcases h : s.stack with _ | ⟨v, _ | ⟨w, _ | ⟨u, r⟩⟩⟩ <;> simp [pop3, pop2_eq, pop_eq, State.popped, h, State.withStack]

theorem pop4_eq (s : State) :
    pop4 s = (s.popped 0, s.popped 1, s.popped 2, s.popped 3, s.withStack (s.stack.drop 4)) := by
  rcases h : s.stack with _ | ⟨v, _ | ⟨w, _ | ⟨u, _ | ⟨z, r⟩⟩⟩⟩ <;> simp [pop4, pop2_eq, State.popped, h, State.withStack]

theorem unaryOp_eq (f : Byte → Byte) (s : State) :
    unaryOp f s = push (f (s.popped 0)) (s.withStack (s.stack.drop 1)) := by rw [unaryOp, pop_eq]

theorem binaryOp_eq (f : Byte → Byte → Byte) (s : State) :
    binaryOp f s = push (f (s.popped 0) (s.popped 1)) (s.withStack (s.stack.drop 2)) := by rw [binaryOp, pop2_eq]

theorem branchOp_eq (zero other : Dir) (s : State) :
    branchOp zero other s = (s.withStack (s.stack.drop 1)).withDir (if s.popped 0 = 0 then zero else other) := by
  simp only [branchOp, pop_eq]

theorem loadOp_eq (f : Byte → Byte) (s : State) :
    loadOp f s = push (f (memRead s (cellAt (s.popped 0) (s.popped 1)))) (s.withStack (s.stack.drop 2)) := by
  simp only [loadOp, pop2_eq]
  rfl

theorem storeOp_eq (f : Byte → Byte) (s : State) :
    storeOp f s = memWrite (s.withStack (s.stack.drop 3)) (cellAt (s.popped 0) (s.popped 1)) (f (s.popped 2)) := by
  simp only [storeOp, pop3_eq]

@[simp] theorem popped_clearErr (s : State) (n : Nat) : (clearErr s).popped n = s.popped n := rfl

/-! ### The frame of a step -/

/-- A step that does not trap: the handler runs with ERR cleared, then the tail advance. -/
theorem complete_eq (h : State → State) (s : State) : complete h s = .next (moveIp (h (clearErr s))) := rfl

/-- Without an overflow the end of a step is `endsHere` of what the handler left. -/
theorem moveIp_of_no_err {u : State} (h : u.err = .none) : moveIp u = u.endsHere := by
  rw [State.endsHere, State.endsAt, ← h]
  rfl

/-- A handler with one push of `v` on `u`, with room for it. -/
theorem moveIp_push_of_lt {u : State} (h : u.stack.length < 512) (he : u.err = .none) (v : Byte) :
    moveIp (push v u) = (u.withStack (v :: u.stack)).endsHere := by
  rw [push_of_lt h, moveIp_of_no_err (by simpa using he)]

/-- The same on a full stack. -/
theorem moveIp_push_of_full {u : State} (h : 512 ≤ u.stack.length) (v : Byte) :
    moveIp (push v u) = u.endsHere.overflowed := by
  rw [push_of_full h]
  rfl

theorem divideOp_cases (f : Byte → Byte → Byte) (s : State) :
    (s.popped 1 = 0 ∧ divideOp f s = .next (markDivByZero s)) ∨
      (s.popped 1 ≠ 0 ∧ divideOp f s = complete (binaryOp f) s) := by
  simp only [divideOp, pop2_eq]
  by_cases h : s.popped 1 = 0
  · exact .inl ⟨h, if_pos h⟩
  · exact .inr ⟨h, if_neg h⟩

/-- A step answers a next state exactly when the block is enabled and its instruction does. -/
theorem step_next_iff (s t : State) :
    step s = .next t ↔ s.fault = false ∧ s.shutdown = false ∧ exec (decodeByte (byteAtIp s)) s = .next t := by
  unfold step whenEnabled
  cases s.fault <;> cases s.shutdown <;> simp

theorem runSteps_succ {s t : State} (n : Nat) (h : step s = .next t) : runSteps (n + 1) s = runSteps n t := by
  rw [runSteps, h]

/-- What every step keeps, every run keeps. -/
theorem runSteps_keeps {P : State → Prop} (hstep : ∀ s t, P s → step s = .next t → P t) (n : Nat) {s t : State}
    (hs : P s) (h : runSteps n s = .next t) : P t := by
  induction n generalizing s with
  | zero =>
    cases h
    exact hs
  | succ n ih =>
    rw [runSteps] at h
    split at h
    · next u hu => exact ih (hstep s u hs hu) h
    · cases h
    · cases h

/-! ### Label index -/

theorem labelOf_congr {s t : State} (h : s.labels = t.labels) (c : Byte) : labelOf s c = labelOf t c := by
  simp only [labelOf, h]

theorem labelOf_setLabel (s : State) (c k : Byte) (e : LabelEntry) :
    labelOf (setLabel s c e) k = if k = c then e else labelOf s k := by
  simp only [labelOf, setLabel, State.withLabels_labels, Vector.getElem_set, BitVec.toNat_inj, eq_comm]

theorem labelOf_invalidateLabels (s : State) (c : Byte) :
    labelOf (invalidateLabels s) c = { labelOf s c with valid := false } := by
  simp [labelOf, invalidateLabels]

theorem scanCell_cases (y : Nat) (s : State) (x : Nat) :
    (memRead s (gridAddr x y) ≠ 0x3B ∧ scanCell y s x = s) ∨
      (memRead s (gridAddr x y) = 0x3B ∧ scanCell y s x = setLabel s (memRead s (gridAddr ((x : Int) + 1) y))
        { valid := true, x := BitVec.ofNat 8 (x + 1), y := BitVec.ofNat 7 y }) := by
  unfold scanCell
  split
  · next h => exact .inr ⟨h, rfl⟩
  · next h => exact .inl ⟨h, rfl⟩

/-- A fold whose every step only rewrites the label index only rewrites the label index. -/
theorem foldl_labels_only {β : Type} {f : State → β → State} (hf : ∀ s b, ∃ l, f s b = s.withLabels l) (bs : List β)
    (s : State) : ∃ l, bs.foldl f s = s.withLabels l := by
  induction bs generalizing s with
  | nil => exact ⟨s.labels, rfl⟩
  | cons b bs ih =>
    obtain ⟨l, hl⟩ := hf s b
    obtain ⟨m, hm⟩ := ih (f s b)
    exact ⟨m, by rw [List.foldl_cons, hm, hl]; rfl⟩

theorem scanCell_labels_only (y : Nat) (s : State) (x : Nat) : ∃ l, scanCell y s x = s.withLabels l := by
  rcases scanCell_cases y s x with ⟨-, h⟩ | ⟨-, h⟩
  · exact ⟨s.labels, h⟩
  · exact ⟨_, h⟩

/-- LABEL_SCAN writes the label index and nothing else. -/
theorem labelScan_labels_only (s : State) : ∃ l, labelScan s = s.withLabels l := by
  obtain ⟨l, hl⟩ := foldl_labels_only (fun t y => foldl_labels_only (scanCell_labels_only y) (List.range 255) t)
    (List.range 128) (invalidateLabels s)
  exact ⟨l, hl⟩

end Sys2Proof.Machine
end

