-- ==== Sys2Proof/Laws/Draw.lean ====
section
/-! SUPPORT. What drawing a line and drawing a sprite do: the framebuffer cells they write, that all others stay, and
that the canonical form stays. -/

namespace Sys2Proof.Machine

theorem spriteLine_congr {s t : State} (h : s.grid = t.grid) (x1 y1 : Byte) (k : Nat) :
    spriteLine s x1 y1 k = spriteLine t x1 y1 k := by
  simp only [spriteLine, memRead_congr h]

theorem foldl_frame_wf {g : Frame → Nat → Frame} (hg : ∀ f n, f.wf → (g f n).wf) (ns : List Nat) {f : Frame}
    (h : f.wf) : Frame.wf (ns.foldl g f) := by
  induction ns generalizing f with
  | nil => exact h
  | cons n ns ih => exact ih (hg f n h)

theorem frameLine_wf {f : Frame} (h : f.wf) (x y : Int) (line : Byte) : (frameLine x y line f).wf :=
  foldl_frame_wf (fun _ _ hf => frameWrite_wf hf _ _ _) _ h

theorem frameSprite_wf {f : Frame} (h : f.wf) (lines : Nat → Byte) (x y : Int) : (frameSprite lines x y f).wf :=
  foldl_frame_wf (fun _ _ hf => frameLine_wf hf _ _ _) _ h

theorem drawSprite_wf {s : State} (h : s.fb.wf) (x1 y1 x2 y2 : Byte) : (drawSprite x1 y1 x2 y2 s).fb.wf :=
  frameSprite_wf h _ _ _

/-- The first `n` pixels of a line: those cells hold their bits, all others what they held. -/
theorem frameRead_pixels (x y : Int) (line : Byte) (f : Frame) (n : Nat) (hn : n ≤ 8) (a : Fin 4032) :
    (∀ i < n, a = fbAddr (x + (i : Nat)) y →
      frameRead ((List.range n).foldl
        (fun g (i : Nat) => frameWrite g (x + i) y (BitVec.ofBool (line.getLsbD (7 - i)))) f) a
          = BitVec.ofBool (line.getLsbD (7 - i))) ∧
    ((∀ i < n, a ≠ fbAddr (x + (i : Nat)) y) →
      frameRead ((List.range n).foldl
        (fun g (i : Nat) => frameWrite g (x + i) y (BitVec.ofBool (line.getLsbD (7 - i)))) f) a = frameRead f a) := by
  induction n with
  | zero => simp
  | succ n ih =>
    have ih := ih (by omega)
    simp only [List.range_succ, List.foldl_append, List.foldl_cons, List.foldl_nil, frameRead_frameWrite]
    refine ⟨fun i hi ha => ?_, fun h => ?_⟩
    · rcases Nat.lt_succ_iff_lt_or_eq.1 hi with hlt | rfl
      · rw [if_neg (by rw [ha, fbAddr_eq_iff]; omega)]
        exact ih.1 i hlt ha
      · rw [if_pos ha]
    · rw [if_neg (h n (by omega))]
      exact ih.2 fun i hi => h i (by omega)

/-- One line of a sprite (46_drawing.md R94). -/
theorem frameRead_line (x y : Int) (line : Byte) (f : Frame) (a : Fin 4032) :
    (∀ i < 8, a = fbAddr (x + (i : Nat)) y →
      frameRead (frameLine x y line f) a = BitVec.ofBool (line.getLsbD (7 - i))) ∧
    ((∀ i < 8, a ≠ fbAddr (x + (i : Nat)) y) → frameRead (frameLine x y line f) a = frameRead f a) :=
  frameRead_pixels x y line f 8 le_rfl a

/-- The first `n` lines of a sprite. -/
theorem frameRead_lines (lines : Nat → Byte) (x y : Int) (f : Frame) (n : Nat) (hn : n ≤ 8) (a : Fin 4032) :
    (∀ k < n, ∀ i < 8, a = fbAddr (x + (i : Nat)) (y + (k : Nat)) →
      frameRead ((List.range n).foldl (fun g (k : Nat) => frameLine x (y + k) (lines k) g) f) a
        = BitVec.ofBool ((lines k).getLsbD (7 - i))) ∧
    ((∀ k < n, ∀ i < 8, a ≠ fbAddr (x + (i : Nat)) (y + (k : Nat))) →
      frameRead ((List.range n).foldl (fun g (k : Nat) => frameLine x (y + k) (lines k) g) f) a = frameRead f a) := by
  induction n with
  | zero => simp
  | succ n ih =>
    obtain ⟨hin, hout⟩ := ih (by omega)
    simp only [List.range_succ, List.foldl_append, List.foldl_cons, List.foldl_nil]
    have line := fun g => frameRead_line x (y + n) (lines n) g a
    refine ⟨fun k hk i hi ha => ?_, fun h => ?_⟩
    · rcases Nat.lt_succ_iff_lt_or_eq.1 hk with hlt | rfl
      · rw [(line _).2 fun j hj => by rw [ha, ne_eq, fbAddr_eq_iff]; omega]
        exact hin k hlt i hi ha
      · exact (line _).1 i hi ha
    · rw [(line _).2 fun j hj => h n (by omega) j hj]
      exact hout fun k hk => h k (by omega)

/-- A whole sprite (46_drawing.md R94): its 64 cells hold the bits of its lines, all others what they held. -/
theorem fbRead_drawSprite (x1 y1 x2 y2 : Byte) (s : State) (a : Fin 4032) :
    (∀ k < 8, ∀ i < 8, a = fbAddr ((x2.toNat : Int) + (i : Nat)) ((y2.toNat : Int) + (k : Nat)) →
      fbRead (drawSprite x1 y1 x2 y2 s) a = BitVec.ofBool ((spriteLine s x1 y1 k).getLsbD (7 - i))) ∧
    ((∀ k < 8, ∀ i < 8, a ≠ fbAddr ((x2.toNat : Int) + (i : Nat)) ((y2.toNat : Int) + (k : Nat))) →
      fbRead (drawSprite x1 y1 x2 y2 s) a = fbRead s a) :=
  frameRead_lines (spriteLine s x1 y1) x2.toNat y2.toNat s.fb 8 le_rfl a

end Sys2Proof.Machine
end

