-- ==== Sys2Proof/Laws/Exec.lean ====
section
/-! SUPPORT. What each instruction is over the shared operations, one equation per constructor, and that every
instruction answers a next state; proofs cite these and do not unfold `exec`. -/

namespace Sys2Proof.Machine

variable (s : State)

theorem exec_goEast : exec .goEast s = complete (fun t => t.withDir .east) s := rfl
theorem exec_goWest : exec .goWest s = complete (fun t => t.withDir .west) s := rfl
theorem exec_goSouth : exec .goSouth s = complete (fun t => t.withDir .south) s := rfl
theorem exec_goNorth : exec .goNorth s = complete (fun t => t.withDir .north) s := rfl
theorem exec_goRandom : exec .goRandom s =
    complete (fun t => (drawRand2 t).2.withDir (dirOfCode (drawRand2 t).1)) s := rfl
theorem exec_add : exec .add s = complete (binaryOp fun a b => trunc8 ((a.toNat : Int) + b.toNat)) s := rfl
theorem exec_sub : exec .sub s = complete (binaryOp fun a b => trunc8 ((a.toNat : Int) - b.toNat)) s := rfl
theorem exec_mul : exec .mul s = complete (binaryOp fun a b => trunc8 ((a.toNat : Int) * b.toNat)) s := rfl
theorem exec_div : exec .div s = divideOp (fun a b => trunc8 ((a.toNat / b.toNat : Nat) : Int)) s := rfl
theorem exec_mod : exec .mod s = divideOp (fun a b => trunc8 ((a.toNat % b.toNat : Nat) : Int)) s := rfl
theorem exec_not : exec .not s = complete (unaryOp fun a => if a = 0 then 1 else 0) s := rfl
theorem exec_greater : exec .greater s = complete (binaryOp fun a b => if b.toNat > a.toNat then 1 else 0) s := rfl
theorem exec_ifVertical : exec .ifVertical s = complete (branchOp .south .north) s := rfl
theorem exec_ifHorizontal : exec .ifHorizontal s = complete (branchOp .east .west) s := rfl
theorem exec_swap : exec .swap s = complete (fun t => push (pop2 t).2.1 (push (pop2 t).1 (pop2 t).2.2)) s := rfl
theorem exec_dup : exec .dup s = complete (fun t => push (peek t) t) s := rfl
theorem exec_drop : exec .drop s = complete (fun t => (pop t).2) s := rfl
theorem exec_get : exec .get s = complete (loadOp fun v => v) s := rfl
theorem exec_getHex : exec .getHex s = complete (loadOp hexDecode) s := rfl
theorem exec_put : exec .put s = complete (storeOp fun v => v) s := rfl
theorem exec_putHex : exec .putHex s = complete (storeOp hexDecode) s := rfl
theorem exec_skip : exec .skip s = complete moveIp s := rfl
theorem exec_quote : exec .quote s = complete (fun t => push (byteAtIp (moveIp t)) (moveIp t)) s := rfl
theorem exec_jump : exec .jump s = complete (fun t => (pop2 t).2.2.withIp (pop2 t).1 (pop2 t).2.1) s := rfl
theorem exec_label : exec .label s =
    complete (fun t => if (labelOf (pop t).2 (pop t).1).valid then pushLabel (labelOf (pop t).2 (pop t).1) (pop t).2
    else (pop t).2) s := rfl
theorem exec_pixel : exec .pixel s =
    complete (fun t => raiseRedraw (fbWrite (pop2 t).2.2 (pop2 t).1.toNat (pop2 t).2.1.toNat 1)) s := rfl
theorem exec_sprite : exec .sprite s =
    complete (fun t => raiseRedraw (drawSprite (pop4 t).1 (pop4 t).2.1 (pop4 t).2.2.1 (pop4 t).2.2.2.1
    (pop4 t).2.2.2.2)) s := rfl
theorem exec_clear : exec .clear s = complete (fun t => raiseRedraw (fbClear t)) s := rfl
theorem exec_nopSpace : exec .nopSpace s = complete (fun t => t) s := rfl
theorem exec_halt : exec .halt s = complete (fun t => raiseShutdown (t.withIp 0 0)) s := rfl
theorem exec_pushHex0 : exec .pushHex0 s = complete (pushLiteral 0x30) s := rfl
theorem exec_pushHex1 : exec .pushHex1 s = complete (pushLiteral 0x31) s := rfl
theorem exec_pushHex2 : exec .pushHex2 s = complete (pushLiteral 0x32) s := rfl
theorem exec_pushHex3 : exec .pushHex3 s = complete (pushLiteral 0x33) s := rfl
theorem exec_pushHex4 : exec .pushHex4 s = complete (pushLiteral 0x34) s := rfl
theorem exec_pushHex5 : exec .pushHex5 s = complete (pushLiteral 0x35) s := rfl
theorem exec_pushHex6 : exec .pushHex6 s = complete (pushLiteral 0x36) s := rfl
theorem exec_pushHex7 : exec .pushHex7 s = complete (pushLiteral 0x37) s := rfl
theorem exec_pushHex8 : exec .pushHex8 s = complete (pushLiteral 0x38) s := rfl
theorem exec_pushHex9 : exec .pushHex9 s = complete (pushLiteral 0x39) s := rfl
theorem exec_pushHexA : exec .pushHexA s = complete (pushLiteral 0x61) s := rfl
theorem exec_pushHexB : exec .pushHexB s = complete (pushLiteral 0x62) s := rfl
theorem exec_pushHexC : exec .pushHexC s = complete (pushLiteral 0x63) s := rfl
theorem exec_pushHexD : exec .pushHexD s = complete (pushLiteral 0x64) s := rfl
theorem exec_pushHexE : exec .pushHexE s = complete (pushLiteral 0x65) s := rfl
theorem exec_pushHexF : exec .pushHexF s = complete (pushLiteral 0x66) s := rfl
theorem exec_nopDefault (b : Byte) : exec (.nopDefault b) s = complete (fun t => t) s := rfl

/-- Every instruction answers a next state from every state: no meaning faults or refuses. -/
theorem exec_next (i : Instr) : ∃ t, exec i s = .next t := by
  cases i
  case div => rcases divideOp_cases (fun a b => trunc8 ((a.toNat / b.toNat : Nat) : Int)) s with h | h <;> exact ⟨_, h.2⟩
  case mod => rcases divideOp_cases (fun a b => trunc8 ((a.toNat % b.toNat : Nat) : Int)) s with h | h <;> exact ⟨_, h.2⟩
  all_goals exact ⟨_, rfl⟩

end Sys2Proof.Machine
end

