-- ==== Sys2Proof/Laws/Fields.lean ====
section
/-! SUPPORT. One lemma per field for each shared operation that rewrites the state as a whole. -/

namespace Sys2Proof.Machine

variable (s : State)

@[simp] theorem clearErr_ipX : (clearErr s).ipX = s.ipX := rfl
@[simp] theorem clearErr_ipY : (clearErr s).ipY = s.ipY := rfl
@[simp] theorem clearErr_dir : (clearErr s).dir = s.dir := rfl
@[simp] theorem clearErr_stack : (clearErr s).stack = s.stack := rfl
@[simp] theorem clearErr_grid : (clearErr s).grid = s.grid := rfl
@[simp] theorem clearErr_labels : (clearErr s).labels = s.labels := rfl
@[simp] theorem clearErr_fb : (clearErr s).fb = s.fb := rfl
@[simp] theorem clearErr_shutdown : (clearErr s).shutdown = s.shutdown := rfl
@[simp] theorem clearErr_redraw : (clearErr s).redraw = s.redraw := rfl
@[simp] theorem clearErr_gamepad : (clearErr s).gamepad = s.gamepad := rfl
@[simp] theorem clearErr_err : (clearErr s).err = .none := rfl
@[simp] theorem clearErr_ovfSeen : (clearErr s).ovfSeen = s.ovfSeen := rfl
@[simp] theorem clearErr_fault : (clearErr s).fault = s.fault := rfl
@[simp] theorem clearErr_draws : (clearErr s).draws = s.draws := rfl

@[simp] theorem raiseRedraw_ipX : (raiseRedraw s).ipX = s.ipX := rfl
@[simp] theorem raiseRedraw_ipY : (raiseRedraw s).ipY = s.ipY := rfl
@[simp] theorem raiseRedraw_dir : (raiseRedraw s).dir = s.dir := rfl
@[simp] theorem raiseRedraw_stack : (raiseRedraw s).stack = s.stack := rfl
@[simp] theorem raiseRedraw_grid : (raiseRedraw s).grid = s.grid := rfl
@[simp] theorem raiseRedraw_labels : (raiseRedraw s).labels = s.labels := rfl
@[simp] theorem raiseRedraw_fb : (raiseRedraw s).fb = s.fb := rfl
@[simp] theorem raiseRedraw_shutdown : (raiseRedraw s).shutdown = s.shutdown := rfl
@[simp] theorem raiseRedraw_redraw : (raiseRedraw s).redraw = true := rfl
@[simp] theorem raiseRedraw_gamepad : (raiseRedraw s).gamepad = s.gamepad := rfl
@[simp] theorem raiseRedraw_err : (raiseRedraw s).err = s.err := rfl
@[simp] theorem raiseRedraw_ovfSeen : (raiseRedraw s).ovfSeen = s.ovfSeen := rfl
@[simp] theorem raiseRedraw_fault : (raiseRedraw s).fault = s.fault := rfl
@[simp] theorem raiseRedraw_draws : (raiseRedraw s).draws = s.draws := rfl

@[simp] theorem raiseShutdown_ipX : (raiseShutdown s).ipX = s.ipX := rfl
@[simp] theorem raiseShutdown_ipY : (raiseShutdown s).ipY = s.ipY := rfl
@[simp] theorem raiseShutdown_dir : (raiseShutdown s).dir = s.dir := rfl
@[simp] theorem raiseShutdown_stack : (raiseShutdown s).stack = s.stack := rfl
@[simp] theorem raiseShutdown_grid : (raiseShutdown s).grid = s.grid := rfl
@[simp] theorem raiseShutdown_labels : (raiseShutdown s).labels = s.labels := rfl
@[simp] theorem raiseShutdown_fb : (raiseShutdown s).fb = s.fb := rfl
@[simp] theorem raiseShutdown_shutdown : (raiseShutdown s).shutdown = true := rfl
@[simp] theorem raiseShutdown_redraw : (raiseShutdown s).redraw = s.redraw := rfl
@[simp] theorem raiseShutdown_gamepad : (raiseShutdown s).gamepad = s.gamepad := rfl
@[simp] theorem raiseShutdown_err : (raiseShutdown s).err = s.err := rfl
@[simp] theorem raiseShutdown_ovfSeen : (raiseShutdown s).ovfSeen = s.ovfSeen := rfl
@[simp] theorem raiseShutdown_fault : (raiseShutdown s).fault = s.fault := rfl
@[simp] theorem raiseShutdown_draws : (raiseShutdown s).draws = s.draws := rfl

@[simp] theorem raiseStackOverflow_ipX : (raiseStackOverflow s).ipX = s.ipX := rfl
@[simp] theorem raiseStackOverflow_ipY : (raiseStackOverflow s).ipY = s.ipY := rfl
@[simp] theorem raiseStackOverflow_dir : (raiseStackOverflow s).dir = s.dir := rfl
@[simp] theorem raiseStackOverflow_stack : (raiseStackOverflow s).stack = s.stack := rfl
@[simp] theorem raiseStackOverflow_grid : (raiseStackOverflow s).grid = s.grid := rfl
@[simp] theorem raiseStackOverflow_labels : (raiseStackOverflow s).labels = s.labels := rfl
@[simp] theorem raiseStackOverflow_fb : (raiseStackOverflow s).fb = s.fb := rfl
@[simp] theorem raiseStackOverflow_shutdown : (raiseStackOverflow s).shutdown = s.shutdown := rfl
@[simp] theorem raiseStackOverflow_redraw : (raiseStackOverflow s).redraw = s.redraw := rfl
@[simp] theorem raiseStackOverflow_gamepad : (raiseStackOverflow s).gamepad = s.gamepad := rfl
@[simp] theorem raiseStackOverflow_err : (raiseStackOverflow s).err = .stackOverflow := rfl
@[simp] theorem raiseStackOverflow_ovfSeen : (raiseStackOverflow s).ovfSeen = true := rfl
@[simp] theorem raiseStackOverflow_fault : (raiseStackOverflow s).fault = s.fault := rfl
@[simp] theorem raiseStackOverflow_draws : (raiseStackOverflow s).draws = s.draws := rfl

@[simp] theorem markDivByZero_ipX : (markDivByZero s).ipX = s.ipX := rfl
@[simp] theorem markDivByZero_ipY : (markDivByZero s).ipY = s.ipY := rfl
@[simp] theorem markDivByZero_dir : (markDivByZero s).dir = s.dir := rfl
@[simp] theorem markDivByZero_stack : (markDivByZero s).stack = s.stack := rfl
@[simp] theorem markDivByZero_grid : (markDivByZero s).grid = s.grid := rfl
@[simp] theorem markDivByZero_labels : (markDivByZero s).labels = s.labels := rfl
@[simp] theorem markDivByZero_fb : (markDivByZero s).fb = s.fb := rfl
@[simp] theorem markDivByZero_shutdown : (markDivByZero s).shutdown = s.shutdown := rfl
@[simp] theorem markDivByZero_redraw : (markDivByZero s).redraw = s.redraw := rfl
@[simp] theorem markDivByZero_gamepad : (markDivByZero s).gamepad = s.gamepad := rfl
@[simp] theorem markDivByZero_err : (markDivByZero s).err = .divByZero := rfl
@[simp] theorem markDivByZero_ovfSeen : (markDivByZero s).ovfSeen = s.ovfSeen := rfl
@[simp] theorem markDivByZero_fault : (markDivByZero s).fault = true := rfl
@[simp] theorem markDivByZero_draws : (markDivByZero s).draws = s.draws := rfl

@[simp] theorem moveIp_ipX : (moveIp s).ipX = (advance s.ipX s.ipY s.dir).1 := rfl
@[simp] theorem moveIp_ipY : (moveIp s).ipY = (advance s.ipX s.ipY s.dir).2 := rfl
@[simp] theorem moveIp_dir : (moveIp s).dir = s.dir := rfl
@[simp] theorem moveIp_stack : (moveIp s).stack = s.stack := rfl
@[simp] theorem moveIp_grid : (moveIp s).grid = s.grid := rfl
@[simp] theorem moveIp_labels : (moveIp s).labels = s.labels := rfl
@[simp] theorem moveIp_fb : (moveIp s).fb = s.fb := rfl
@[simp] theorem moveIp_shutdown : (moveIp s).shutdown = s.shutdown := rfl
@[simp] theorem moveIp_redraw : (moveIp s).redraw = s.redraw := rfl
@[simp] theorem moveIp_gamepad : (moveIp s).gamepad = s.gamepad := rfl
@[simp] theorem moveIp_err : (moveIp s).err = s.err := rfl
@[simp] theorem moveIp_ovfSeen : (moveIp s).ovfSeen = s.ovfSeen := rfl
@[simp] theorem moveIp_fault : (moveIp s).fault = s.fault := rfl
@[simp] theorem moveIp_draws : (moveIp s).draws = s.draws := rfl

@[simp] theorem fbClear_ipX : (fbClear s).ipX = s.ipX := rfl
@[simp] theorem fbClear_ipY : (fbClear s).ipY = s.ipY := rfl
@[simp] theorem fbClear_dir : (fbClear s).dir = s.dir := rfl
@[simp] theorem fbClear_stack : (fbClear s).stack = s.stack := rfl
@[simp] theorem fbClear_grid : (fbClear s).grid = s.grid := rfl
@[simp] theorem fbClear_labels : (fbClear s).labels = s.labels := rfl
@[simp] theorem fbClear_fb : (fbClear s).fb = [] := rfl
@[simp] theorem fbClear_shutdown : (fbClear s).shutdown = s.shutdown := rfl
@[simp] theorem fbClear_redraw : (fbClear s).redraw = s.redraw := rfl
@[simp] theorem fbClear_gamepad : (fbClear s).gamepad = s.gamepad := rfl
@[simp] theorem fbClear_err : (fbClear s).err = s.err := rfl
@[simp] theorem fbClear_ovfSeen : (fbClear s).ovfSeen = s.ovfSeen := rfl
@[simp] theorem fbClear_fault : (fbClear s).fault = s.fault := rfl
@[simp] theorem fbClear_draws : (fbClear s).draws = s.draws := rfl

@[simp] theorem memWrite_ipX (a : Fin 32768) (v : Byte) : (memWrite s a v).ipX = s.ipX := rfl
@[simp] theorem memWrite_ipY (a : Fin 32768) (v : Byte) : (memWrite s a v).ipY = s.ipY := rfl
@[simp] theorem memWrite_dir (a : Fin 32768) (v : Byte) : (memWrite s a v).dir = s.dir := rfl
@[simp] theorem memWrite_stack (a : Fin 32768) (v : Byte) : (memWrite s a v).stack = s.stack := rfl
@[simp] theorem memWrite_labels (a : Fin 32768) (v : Byte) : (memWrite s a v).labels = s.labels := rfl
@[simp] theorem memWrite_fb (a : Fin 32768) (v : Byte) : (memWrite s a v).fb = s.fb := rfl
@[simp] theorem memWrite_shutdown (a : Fin 32768) (v : Byte) : (memWrite s a v).shutdown = s.shutdown := rfl
@[simp] theorem memWrite_redraw (a : Fin 32768) (v : Byte) : (memWrite s a v).redraw = s.redraw := rfl
@[simp] theorem memWrite_gamepad (a : Fin 32768) (v : Byte) : (memWrite s a v).gamepad = s.gamepad := rfl
@[simp] theorem memWrite_err (a : Fin 32768) (v : Byte) : (memWrite s a v).err = s.err := rfl
@[simp] theorem memWrite_ovfSeen (a : Fin 32768) (v : Byte) : (memWrite s a v).ovfSeen = s.ovfSeen := rfl
@[simp] theorem memWrite_fault (a : Fin 32768) (v : Byte) : (memWrite s a v).fault = s.fault := rfl
@[simp] theorem memWrite_draws (a : Fin 32768) (v : Byte) : (memWrite s a v).draws = s.draws := rfl

@[simp] theorem fbWrite_ipX (x y : Int) (bit : Bit) : (fbWrite s x y bit).ipX = s.ipX := rfl
@[simp] theorem fbWrite_ipY (x y : Int) (bit : Bit) : (fbWrite s x y bit).ipY = s.ipY := rfl
@[simp] theorem fbWrite_dir (x y : Int) (bit : Bit) : (fbWrite s x y bit).dir = s.dir := rfl
@[simp] theorem fbWrite_stack (x y : Int) (bit : Bit) : (fbWrite s x y bit).stack = s.stack := rfl
@[simp] theorem fbWrite_grid (x y : Int) (bit : Bit) : (fbWrite s x y bit).grid = s.grid := rfl
@[simp] theorem fbWrite_labels (x y : Int) (bit : Bit) : (fbWrite s x y bit).labels = s.labels := rfl
@[simp] theorem fbWrite_shutdown (x y : Int) (bit : Bit) : (fbWrite s x y bit).shutdown = s.shutdown := rfl
@[simp] theorem fbWrite_redraw (x y : Int) (bit : Bit) : (fbWrite s x y bit).redraw = s.redraw := rfl
@[simp] theorem fbWrite_gamepad (x y : Int) (bit : Bit) : (fbWrite s x y bit).gamepad = s.gamepad := rfl
@[simp] theorem fbWrite_err (x y : Int) (bit : Bit) : (fbWrite s x y bit).err = s.err := rfl
@[simp] theorem fbWrite_ovfSeen (x y : Int) (bit : Bit) : (fbWrite s x y bit).ovfSeen = s.ovfSeen := rfl
@[simp] theorem fbWrite_fault (x y : Int) (bit : Bit) : (fbWrite s x y bit).fault = s.fault := rfl
@[simp] theorem fbWrite_draws (x y : Int) (bit : Bit) : (fbWrite s x y bit).draws = s.draws := rfl

@[simp] theorem setLabel_ipX (c : Byte) (e : LabelEntry) : (setLabel s c e).ipX = s.ipX := rfl
@[simp] theorem setLabel_ipY (c : Byte) (e : LabelEntry) : (setLabel s c e).ipY = s.ipY := rfl
@[simp] theorem setLabel_dir (c : Byte) (e : LabelEntry) : (setLabel s c e).dir = s.dir := rfl
@[simp] theorem setLabel_stack (c : Byte) (e : LabelEntry) : (setLabel s c e).stack = s.stack := rfl
@[simp] theorem setLabel_grid (c : Byte) (e : LabelEntry) : (setLabel s c e).grid = s.grid := rfl
@[simp] theorem setLabel_fb (c : Byte) (e : LabelEntry) : (setLabel s c e).fb = s.fb := rfl
@[simp] theorem setLabel_shutdown (c : Byte) (e : LabelEntry) : (setLabel s c e).shutdown = s.shutdown := rfl
@[simp] theorem setLabel_redraw (c : Byte) (e : LabelEntry) : (setLabel s c e).redraw = s.redraw := rfl
@[simp] theorem setLabel_gamepad (c : Byte) (e : LabelEntry) : (setLabel s c e).gamepad = s.gamepad := rfl
@[simp] theorem setLabel_err (c : Byte) (e : LabelEntry) : (setLabel s c e).err = s.err := rfl
@[simp] theorem setLabel_ovfSeen (c : Byte) (e : LabelEntry) : (setLabel s c e).ovfSeen = s.ovfSeen := rfl
@[simp] theorem setLabel_fault (c : Byte) (e : LabelEntry) : (setLabel s c e).fault = s.fault := rfl
@[simp] theorem setLabel_draws (c : Byte) (e : LabelEntry) : (setLabel s c e).draws = s.draws := rfl

@[simp] theorem drawSprite_ipX (x1 y1 x2 y2 : Byte) : (drawSprite x1 y1 x2 y2 s).ipX = s.ipX := rfl
@[simp] theorem drawSprite_ipY (x1 y1 x2 y2 : Byte) : (drawSprite x1 y1 x2 y2 s).ipY = s.ipY := rfl
@[simp] theorem drawSprite_dir (x1 y1 x2 y2 : Byte) : (drawSprite x1 y1 x2 y2 s).dir = s.dir := rfl
@[simp] theorem drawSprite_stack (x1 y1 x2 y2 : Byte) : (drawSprite x1 y1 x2 y2 s).stack = s.stack := rfl
@[simp] theorem drawSprite_grid (x1 y1 x2 y2 : Byte) : (drawSprite x1 y1 x2 y2 s).grid = s.grid := rfl
@[simp] theorem drawSprite_labels (x1 y1 x2 y2 : Byte) : (drawSprite x1 y1 x2 y2 s).labels = s.labels := rfl
@[simp] theorem drawSprite_shutdown (x1 y1 x2 y2 : Byte) : (drawSprite x1 y1 x2 y2 s).shutdown = s.shutdown := rfl
@[simp] theorem drawSprite_redraw (x1 y1 x2 y2 : Byte) : (drawSprite x1 y1 x2 y2 s).redraw = s.redraw := rfl
@[simp] theorem drawSprite_gamepad (x1 y1 x2 y2 : Byte) : (drawSprite x1 y1 x2 y2 s).gamepad = s.gamepad := rfl
@[simp] theorem drawSprite_err (x1 y1 x2 y2 : Byte) : (drawSprite x1 y1 x2 y2 s).err = s.err := rfl
@[simp] theorem drawSprite_ovfSeen (x1 y1 x2 y2 : Byte) : (drawSprite x1 y1 x2 y2 s).ovfSeen = s.ovfSeen := rfl
@[simp] theorem drawSprite_fault (x1 y1 x2 y2 : Byte) : (drawSprite x1 y1 x2 y2 s).fault = s.fault := rfl
@[simp] theorem drawSprite_draws (x1 y1 x2 y2 : Byte) : (drawSprite x1 y1 x2 y2 s).draws = s.draws := rfl

@[simp] theorem labelScan_ipX : (labelScan s).ipX = s.ipX := by
  obtain ⟨l, hl⟩ := labelScan_labels_only s
  rw [hl, State.withLabels_ipX]
@[simp] theorem labelScan_ipY : (labelScan s).ipY = s.ipY := by
  obtain ⟨l, hl⟩ := labelScan_labels_only s
  rw [hl, State.withLabels_ipY]
@[simp] theorem labelScan_dir : (labelScan s).dir = s.dir := by
  obtain ⟨l, hl⟩ := labelScan_labels_only s
  rw [hl, State.withLabels_dir]
@[simp] theorem labelScan_stack : (labelScan s).stack = s.stack := by
  obtain ⟨l, hl⟩ := labelScan_labels_only s
  rw [hl, State.withLabels_stack]
@[simp] theorem labelScan_grid : (labelScan s).grid = s.grid := by
  obtain ⟨l, hl⟩ := labelScan_labels_only s
  rw [hl, State.withLabels_grid]
@[simp] theorem labelScan_fb : (labelScan s).fb = s.fb := by
  obtain ⟨l, hl⟩ := labelScan_labels_only s
  rw [hl, State.withLabels_fb]
@[simp] theorem labelScan_shutdown : (labelScan s).shutdown = s.shutdown := by
  obtain ⟨l, hl⟩ := labelScan_labels_only s
  rw [hl, State.withLabels_shutdown]
@[simp] theorem labelScan_redraw : (labelScan s).redraw = s.redraw := by
  obtain ⟨l, hl⟩ := labelScan_labels_only s
  rw [hl, State.withLabels_redraw]
@[simp] theorem labelScan_gamepad : (labelScan s).gamepad = s.gamepad := by
  obtain ⟨l, hl⟩ := labelScan_labels_only s
  rw [hl, State.withLabels_gamepad]
@[simp] theorem labelScan_err : (labelScan s).err = s.err := by
  obtain ⟨l, hl⟩ := labelScan_labels_only s
  rw [hl, State.withLabels_err]
@[simp] theorem labelScan_ovfSeen : (labelScan s).ovfSeen = s.ovfSeen := by
  obtain ⟨l, hl⟩ := labelScan_labels_only s
  rw [hl, State.withLabels_ovfSeen]
@[simp] theorem labelScan_fault : (labelScan s).fault = s.fault := by
  obtain ⟨l, hl⟩ := labelScan_labels_only s
  rw [hl, State.withLabels_fault]
@[simp] theorem labelScan_draws : (labelScan s).draws = s.draws := by
  obtain ⟨l, hl⟩ := labelScan_labels_only s
  rw [hl, State.withLabels_draws]

end Sys2Proof.Machine
end

