-- ==== Sys2Proof/Laws/PerInstr.lean ====
section
/-! SUPPORT. Per-instruction facts about the encoding. DefaultByte: among the well-formed instructions only the default
no-op is spelled by one of the 210 default bytes (30_encoding.md R51). -/

namespace Sys2Proof.Laws.DefaultByte

def Statement (i : Instr) : Prop :=
  i.wellFormed = true → (isDefaultByte (encode i) = true ↔ ∃ b, i = .nopDefault b)

theorem goEast : Statement .goEast := fun _ => ⟨fun h => absurd h (by decide), fun ⟨_, h⟩ => nomatch h⟩
theorem goWest : Statement .goWest := fun _ => ⟨fun h => absurd h (by decide), fun ⟨_, h⟩ => nomatch h⟩
theorem goSouth : Statement .goSouth := fun _ => ⟨fun h => absurd h (by decide), fun ⟨_, h⟩ => nomatch h⟩
theorem goNorth : Statement .goNorth := fun _ => ⟨fun h => absurd h (by decide), fun ⟨_, h⟩ => nomatch h⟩
theorem goRandom : Statement .goRandom := fun _ => ⟨fun h => absurd h (by decide), fun ⟨_, h⟩ => nomatch h⟩
theorem add : Statement .add := fun _ => ⟨fun h => absurd h (by decide), fun ⟨_, h⟩ => nomatch h⟩
theorem sub : Statement .sub := fun _ => ⟨fun h => absurd h (by decide), fun ⟨_, h⟩ => nomatch h⟩
theorem mul : Statement .mul := fun _ => ⟨fun h => absurd h (by decide), fun ⟨_, h⟩ => nomatch h⟩
theorem div : Statement .div := fun _ => ⟨fun h => absurd h (by decide), fun ⟨_, h⟩ => nomatch h⟩
theorem mod : Statement .mod := fun _ => ⟨fun h => absurd h (by decide), fun ⟨_, h⟩ => nomatch h⟩
theorem not : Statement .not := fun _ => ⟨fun h => absurd h (by decide), fun ⟨_, h⟩ => nomatch h⟩
theorem greater : Statement .greater := fun _ => ⟨fun h => absurd h (by decide), fun ⟨_, h⟩ => nomatch h⟩
theorem ifVertical : Statement .ifVertical := fun _ => ⟨fun h => absurd h (by decide), fun ⟨_, h⟩ => nomatch h⟩
theorem ifHorizontal : Statement .ifHorizontal := fun _ => ⟨fun h => absurd h (by decide), fun ⟨_, h⟩ => nomatch h⟩
theorem swap : Statement .swap := fun _ => ⟨fun h => absurd h (by decide), fun ⟨_, h⟩ => nomatch h⟩
theorem dup : Statement .dup := fun _ => ⟨fun h => absurd h (by decide), fun ⟨_, h⟩ => nomatch h⟩
theorem drop : Statement .drop := fun _ => ⟨fun h => absurd h (by decide), fun ⟨_, h⟩ => nomatch h⟩
theorem get : Statement .get := fun _ => ⟨fun h => absurd h (by decide), fun ⟨_, h⟩ => nomatch h⟩
theorem getHex : Statement .getHex := fun _ => ⟨fun h => absurd h (by decide), fun ⟨_, h⟩ => nomatch h⟩
theorem put : Statement .put := fun _ => ⟨fun h => absurd h (by decide), fun ⟨_, h⟩ => nomatch h⟩
theorem putHex : Statement .putHex := fun _ => ⟨fun h => absurd h (by decide), fun ⟨_, h⟩ => nomatch h⟩
theorem skip : Statement .skip := fun _ => ⟨fun h => absurd h (by decide), fun ⟨_, h⟩ => nomatch h⟩
theorem quote : Statement .quote := fun _ => ⟨fun h => absurd h (by decide), fun ⟨_, h⟩ => nomatch h⟩
theorem jump : Statement .jump := fun _ => ⟨fun h => absurd h (by decide), fun ⟨_, h⟩ => nomatch h⟩
theorem label : Statement .label := fun _ => ⟨fun h => absurd h (by decide), fun ⟨_, h⟩ => nomatch h⟩
theorem pixel : Statement .pixel := fun _ => ⟨fun h => absurd h (by decide), fun ⟨_, h⟩ => nomatch h⟩
theorem sprite : Statement .sprite := fun _ => ⟨fun h => absurd h (by decide), fun ⟨_, h⟩ => nomatch h⟩
theorem clear : Statement .clear := fun _ => ⟨fun h => absurd h (by decide), fun ⟨_, h⟩ => nomatch h⟩
theorem nopSpace : Statement .nopSpace := fun _ => ⟨fun h => absurd h (by decide), fun ⟨_, h⟩ => nomatch h⟩
theorem halt : Statement .halt := fun _ => ⟨fun h => absurd h (by decide), fun ⟨_, h⟩ => nomatch h⟩
theorem pushHex0 : Statement .pushHex0 := fun _ => ⟨fun h => absurd h (by decide), fun ⟨_, h⟩ => nomatch h⟩
theorem pushHex1 : Statement .pushHex1 := fun _ => ⟨fun h => absurd h (by decide), fun ⟨_, h⟩ => nomatch h⟩
theorem pushHex2 : Statement .pushHex2 := fun _ => ⟨fun h => absurd h (by decide), fun ⟨_, h⟩ => nomatch h⟩
theorem pushHex3 : Statement .pushHex3 := fun _ => ⟨fun h => absurd h (by decide), fun ⟨_, h⟩ => nomatch h⟩
theorem pushHex4 : Statement .pushHex4 := fun _ => ⟨fun h => absurd h (by decide), fun ⟨_, h⟩ => nomatch h⟩
theorem pushHex5 : Statement .pushHex5 := fun _ => ⟨fun h => absurd h (by decide), fun ⟨_, h⟩ => nomatch h⟩
theorem pushHex6 : Statement .pushHex6 := fun _ => ⟨fun h => absurd h (by decide), fun ⟨_, h⟩ => nomatch h⟩
theorem pushHex7 : Statement .pushHex7 := fun _ => ⟨fun h => absurd h (by decide), fun ⟨_, h⟩ => nomatch h⟩
theorem pushHex8 : Statement .pushHex8 := fun _ => ⟨fun h => absurd h (by decide), fun ⟨_, h⟩ => nomatch h⟩
theorem pushHex9 : Statement .pushHex9 := fun _ => ⟨fun h => absurd h (by decide), fun ⟨_, h⟩ => nomatch h⟩
theorem pushHexA : Statement .pushHexA := fun _ => ⟨fun h => absurd h (by decide), fun ⟨_, h⟩ => nomatch h⟩
theorem pushHexB : Statement .pushHexB := fun _ => ⟨fun h => absurd h (by decide), fun ⟨_, h⟩ => nomatch h⟩
theorem pushHexC : Statement .pushHexC := fun _ => ⟨fun h => absurd h (by decide), fun ⟨_, h⟩ => nomatch h⟩
theorem pushHexD : Statement .pushHexD := fun _ => ⟨fun h => absurd h (by decide), fun ⟨_, h⟩ => nomatch h⟩
theorem pushHexE : Statement .pushHexE := fun _ => ⟨fun h => absurd h (by decide), fun ⟨_, h⟩ => nomatch h⟩
theorem pushHexF : Statement .pushHexF := fun _ => ⟨fun h => absurd h (by decide), fun ⟨_, h⟩ => nomatch h⟩
theorem nopDefault (b : Byte) : Statement (.nopDefault b) := fun h => ⟨fun _ => ⟨b, rfl⟩, fun _ => h⟩

end Sys2Proof.Laws.DefaultByte
end

