-- ==== Sys2Proof/Laws/Scan.lean ====
section
/-! SUPPORT. A key the label scan has once recorded stays known to the end of the scan. -/

namespace Sys2Proof.Machine

/-- What every visit keeps, a run of visits keeps. -/
theorem foldl_keeps {β : Type} {P : State → Prop} {f : State → β → State} (hf : ∀ s b, P s → P (f s b)) (bs : List β)
    {s : State} (h : P s) : P (bs.foldl f s) := by
  induction bs generalizing s with
  | nil => exact h
  | cons b bs ih => exact ih (hf s b h)

theorem scanCell_keeps_known {s : State} {c : Byte} (y x : Nat) (h : (labelOf s c).valid = true) :
    (labelOf (scanCell y s x) c).valid = true := by
  rcases scanCell_cases y s x with ⟨-, e⟩ | ⟨-, e⟩ <;> rw [e]
  · exact h
  · rw [labelOf_setLabel]; split
    · rfl
    · exact h

theorem scanRow_keeps_known {s : State} {c : Byte} (y : Nat) (h : (labelOf s c).valid = true) :
    (labelOf (scanRow s y) c).valid = true :=
  foldl_keeps (P := fun t => (labelOf t c).valid = true) (fun _ x => scanCell_keeps_known y x) _ h

/-- A `;` in the first cell the scan visits makes the byte beside it a known label. -/
theorem labelScan_knows_first {s : State} (h : memRead s (gridAddr 0 0) = 0x3B) :
    (labelOf (labelScan s) (memRead s (gridAddr 1 0))).valid = true := by
  unfold labelScan
  rw [show (128 : Nat) = 127 + 1 from rfl, List.range_succ_eq_map, List.foldl_cons]
  refine foldl_keeps (P := fun t => (labelOf t (memRead s (gridAddr 1 0))).valid = true)
    (fun _ y => scanRow_keeps_known y) _ ?_
  unfold scanRow
  rw [show (255 : Nat) = 254 + 1 from rfl, List.range_succ_eq_map, List.foldl_cons]
  refine foldl_keeps (P := fun t => (labelOf t (memRead s (gridAddr 1 0))).valid = true)
    (fun _ x => scanCell_keeps_known 0 x) _ ?_
  have e : scanCell 0 (invalidateLabels s) 0 =
      setLabel (invalidateLabels s) (memRead s (gridAddr 1 0)) { valid := true, x := 1, y := 0 } := if_pos h
  rw [e, labelOf_setLabel, if_pos rfl]

end Sys2Proof.Machine
end

