-- ==== Sys2Proof/Laws/Shape.lean ====
section
/-! SUPPORT. The inversion of `exec`, said once: the six ways an instruction can end, by what it pushes and on which
stack. Statements about the stack and the error reports follow from it without unfolding an instruction. -/

namespace Sys2Proof.Machine

/-- A handler's state before its pushes: no error recorded yet, the sticky bits as they were. -/
def Quiet (s u : State) : Prop := u.err = .none ∧ u.ovfSeen = s.ovfSeen ∧ u.fault = s.fault

/-- The instructions that push without popping. -/
def growing : List Instr :=
  [.pushHex0, .pushHex1, .pushHex2, .pushHex3, .pushHex4, .pushHex5, .pushHex6, .pushHex7]
  ++ [.pushHex8, .pushHex9, .pushHexA, .pushHexB, .pushHexC, .pushHexD, .pushHexE, .pushHexF] ++ [.dup, .quote]

inductive Shape (i : Instr) (s : State) : State → Prop where
  /-- the trap -/
  | trap (hi : i = .div ∨ i = .mod) (h0 : s.popped 1 = 0) : Shape i s (markDivByZero s)
  /-- no push -/
  | plain (u : State) (q : Quiet s u) (hi : i ≠ .div ∧ i ≠ .mod) (hl : u.stack.length ≤ s.stack.length) :
    Shape i s (moveIp u)
  /-- one push after at least one pop -/
  | result (u : State) (v : Byte) (q : Quiet s u) (hi : i = .div ∨ i = .mod → s.popped 1 ≠ 0)
    (hl : u.stack.length ≤ s.stack.length - 1) : Shape i s (moveIp (push v u))
  /-- one push and no pop -/
  | grow (u : State) (v : Byte) (q : Quiet s u) (hi : i ∈ growing) (hl : u.stack = s.stack) :
    Shape i s (moveIp (push v u))
  /-- a known label: two pushes after one pop -/
  | label (u : State) (v w : Byte) (q : Quiet s u) (hi : i = .label) (hl : u.stack.length ≤ s.stack.length - 1) :
    Shape i s (moveIp (push v (push w u)))
  /-- swap: two pushes after two pops -/
  | swap (u : State) (v w : Byte) (q : Quiet s u) (hi : i = .swap) (hl : u.stack.length ≤ s.stack.length - 2) :
    Shape i s (moveIp (push v (push w u)))

variable {i : Instr} {s t : State}

theorem quiet_popped (n : Nat) : Quiet s ((clearErr s).withStack ((clearErr s).stack.drop n)) := ⟨rfl, rfl, rfl⟩

theorem popped_length (n : Nat) :
    ((clearErr s).withStack ((clearErr s).stack.drop n)).stack.length ≤ s.stack.length - n := by simp

theorem shape_plain {f : State → State} (h : exec i s = complete f s) (hi : i ≠ .div ∧ i ≠ .mod)
    (q : Quiet s (f (clearErr s))) (hl : (f (clearErr s)).stack.length ≤ s.stack.length) (ht : exec i s = .next t) :
    Shape i s t := by
  rw [h, complete_eq] at ht
  cases ht
  exact .plain _ q hi hl

theorem shape_binary {f : Byte → Byte → Byte} (h : exec i s = complete (binaryOp f) s)
    (hi : i = .div ∨ i = .mod → s.popped 1 ≠ 0) (ht : exec i s = .next t) : Shape i s t := by
  rw [h, complete_eq, binaryOp_eq] at ht
  cases ht
  exact .result _ _ (quiet_popped 2) hi ((popped_length 2).trans (by omega))

theorem shape_divide {f : Byte → Byte → Byte} (h : exec i s = divideOp f s) (hi : i = .div ∨ i = .mod)
    (ht : exec i s = .next t) : Shape i s t := by
  rcases divideOp_cases f s with ⟨h0, hd⟩ | ⟨h0, hd⟩
  · rw [h, hd] at ht
    cases ht
    exact .trap hi h0
  · exact shape_binary (h.trans hd) (fun _ => h0) ht

theorem shape_load {f : Byte → Byte} (h : exec i s = complete (loadOp f) s) (hi : i ≠ .div ∧ i ≠ .mod)
    (ht : exec i s = .next t) : Shape i s t := by
  rw [h, complete_eq, loadOp_eq] at ht
  cases ht
  exact .result _ _ (quiet_popped 2) (fun h => absurd h (by tauto)) ((popped_length 2).trans (by omega))

theorem shape_branch {a b : Dir} (h : exec i s = complete (branchOp a b) s) (hi : i ≠ .div ∧ i ≠ .mod)
    (ht : exec i s = .next t) : Shape i s t :=
  shape_plain h hi (by rw [branchOp_eq]; exact quiet_popped 1) (by rw [branchOp_eq]; simp) ht

theorem shape_store {f : Byte → Byte} (h : exec i s = complete (storeOp f) s) (hi : i ≠ .div ∧ i ≠ .mod)
    (ht : exec i s = .next t) : Shape i s t :=
  shape_plain h hi (by rw [storeOp_eq]; exact quiet_popped 3) (by rw [storeOp_eq]; simp) ht

theorem shape_literal {b : Byte} (h : exec i s = complete (pushLiteral b) s) (hi : i ∈ growing)
    (ht : exec i s = .next t) : Shape i s t := by
  rw [h, complete_eq, pushLiteral] at ht
  cases ht
  exact .grow (clearErr s) _ ⟨rfl, rfl, rfl⟩ hi rfl

theorem shape_label (ht : exec .label s = .next t) : Shape .label s t := by
  rw [exec_label, complete_eq] at ht
  simp only [pop_eq] at ht
  cases ht
  split
  · exact .label _ _ _ (quiet_popped 1) rfl (popped_length 1)
  · exact .plain _ (quiet_popped 1) (by decide) ((popped_length 1).trans (by omega))

theorem shape_swap (ht : exec .swap s = .next t) : Shape .swap s t := by
  rw [exec_swap, complete_eq] at ht
  simp only [pop2_eq] at ht
  cases ht
  exact .swap _ _ _ (quiet_popped 2) rfl (popped_length 2)

theorem shape_not (ht : exec .not s = .next t) : Shape .not s t := by
  rw [exec_not, complete_eq, unaryOp_eq] at ht
  cases ht
  exact .result _ _ (quiet_popped 1) (by simp) (popped_length 1)

theorem shape_dup (ht : exec .dup s = .next t) : Shape .dup s t := by
  rw [exec_dup, complete_eq] at ht
  cases ht
  exact .grow (clearErr s) _ ⟨rfl, rfl, rfl⟩ (by decide) rfl

theorem shape_quote (ht : exec .quote s = .next t) : Shape .quote s t := by
  rw [exec_quote, complete_eq] at ht
  cases ht
  exact .grow (moveIp (clearErr s)) _ ⟨rfl, rfl, rfl⟩ (by decide) rfl

theorem shape_sprite (ht : exec .sprite s = .next t) : Shape .sprite s t :=
  shape_plain (exec_sprite s) (by decide) (by simp [Quiet, pop4_eq]) (by simp [pop4_eq]) ht

/-- Every instruction ends in one of the six ways. -/
theorem exec_shape (i : Instr) {s t : State} (h : exec i s = .next t) : Shape i s t := by
  have quiet : Quiet s (clearErr s) := ⟨rfl, rfl, rfl⟩
  cases i
  case goEast => exact shape_plain (exec_goEast s) (by decide) quiet le_rfl h
  case goWest => exact shape_plain (exec_goWest s) (by decide) quiet le_rfl h
  case goSouth => exact shape_plain (exec_goSouth s) (by decide) quiet le_rfl h
  case goNorth => exact shape_plain (exec_goNorth s) (by decide) quiet le_rfl h
  case goRandom => exact shape_plain (exec_goRandom s) (by decide) quiet le_rfl h
  case add => exact shape_binary (exec_add s) (by simp) h
  case sub => exact shape_binary (exec_sub s) (by simp) h
  case mul => exact shape_binary (exec_mul s) (by simp) h
  case div => exact shape_divide (exec_div s) (by decide) h
  case mod => exact shape_divide (exec_mod s) (by decide) h
  case not => exact shape_not h
  case greater => exact shape_binary (exec_greater s) (by simp) h
  case ifVertical => exact shape_branch (exec_ifVertical s) (by decide) h
  case ifHorizontal => exact shape_branch (exec_ifHorizontal s) (by decide) h
  case swap => exact shape_swap h
  case dup => exact shape_dup h
  case drop => exact shape_plain (exec_drop s) (by decide) (by simp [Quiet, pop_eq]) (by simp [pop_eq]) h
  case get => exact shape_load (exec_get s) (by decide) h
  case getHex => exact shape_load (exec_getHex s) (by decide) h
  case put => exact shape_store (exec_put s) (by decide) h
  case putHex => exact shape_store (exec_putHex s) (by decide) h
  case skip => exact shape_plain (exec_skip s) (by decide) quiet le_rfl h
  case quote => exact shape_quote h
  case jump => exact shape_plain (exec_jump s) (by decide) (by simp [Quiet, pop2_eq]) (by simp [pop2_eq]) h
  case label => exact shape_label h
  case pixel => exact shape_plain (exec_pixel s) (by decide) (by simp [Quiet, pop2_eq]) (by simp [pop2_eq]) h
  case sprite => exact shape_sprite h
  case clear => exact shape_plain (exec_clear s) (by decide) quiet le_rfl h
  case nopSpace => exact shape_plain (exec_nopSpace s) (by decide) quiet le_rfl h
  case halt => exact shape_plain (exec_halt s) (by decide) quiet le_rfl h
  case nopDefault b => exact shape_plain (exec_nopDefault s b) (by simp) quiet le_rfl h
  case pushHex0 => exact shape_literal (exec_pushHex0 s) (by decide) h
  case pushHex1 => exact shape_literal (exec_pushHex1 s) (by decide) h
  case pushHex2 => exact shape_literal (exec_pushHex2 s) (by decide) h
  case pushHex3 => exact shape_literal (exec_pushHex3 s) (by decide) h
  case pushHex4 => exact shape_literal (exec_pushHex4 s) (by decide) h
  case pushHex5 => exact shape_literal (exec_pushHex5 s) (by decide) h
  case pushHex6 => exact shape_literal (exec_pushHex6 s) (by decide) h
  case pushHex7 => exact shape_literal (exec_pushHex7 s) (by decide) h
  case pushHex8 => exact shape_literal (exec_pushHex8 s) (by decide) h
  case pushHex9 => exact shape_literal (exec_pushHex9 s) (by decide) h
  case pushHexA => exact shape_literal (exec_pushHexA s) (by decide) h
  case pushHexB => exact shape_literal (exec_pushHexB s) (by decide) h
  case pushHexC => exact shape_literal (exec_pushHexC s) (by decide) h
  case pushHexD => exact shape_literal (exec_pushHexD s) (by decide) h
  case pushHexE => exact shape_literal (exec_pushHexE s) (by decide) h
  case pushHexF => exact shape_literal (exec_pushHexF s) (by decide) h

end Sys2Proof.Machine
end

