-- ==== Sys2Proof/Tests/Slice0.lean ====
section
/-! SUPPORT. Tests whose expected results are the vectors of 95_test_vectors.md and the opcode map of 30_encoding.md, and
a witness for the hypotheses of every statement that has some. Stacks are written bottom to top, as the vectors are. -/

open Sys2Proof Sys2Proof.Machine

namespace Sys2Proof.Tests

/-! ### Builders -/

/-- A block right after reset but for its IP, DIR and stack. -/
def block (x y : Byte) (d : Dir) (st : List Byte) : State :=
  { State.reset with ipX := x, ipY := y, dir := d, stack := st.reverse }

/-- One STEP from `s` with byte `b` in the designated cell. -/
def after (b : Byte) (s : State) : Option State :=
  match step (placeAtIp s b) with
  | .next t => some t
  | .fault _ => none
  | .refused _ => none

/-- The stack after one step from (0, 0) East. -/
def stackAfter (b : Byte) (st : List Byte) : Option (List Byte) :=
  (after b (block 0 0 .east st)).map fun t => t.stack.reverse

/-- IP and DIR after one step. -/
def ipAfter (b : Byte) (s : State) : Option (Byte × Byte × Dir) := (after b s).map fun t => (t.ipX, t.ipY, t.dir)

/-- A cell of the grid of a state. -/
def cell (x y : Int) (t : State) : Byte := memRead t (gridAddr x y)

/-- `s` with bytes in a row, from column `x`. -/
def withBytes (s : State) (x y : Nat) (bs : List Byte) : State :=
  (bs.zipIdx x).foldl (fun t p => memWrite t (gridAddr p.2 y) p.1) s

/-- The framebuffer of a state as the columns lit in row `y`. -/
def litColumns (y : Nat) (t : State) : List Nat := (List.range 84).filter fun x => fbRead t (fbAddr x y) = 1

/-- A block whose stack holds `n` zeros and `top` above them. -/
def deep (n : Nat) (top : Byte) : State := { State.reset with stack := top :: List.replicate n 0 }

/-- A block that knows the one label `c`. -/
def labelled (c x : Byte) (y : BitVec 7) (st : List Byte) : State :=
  setLabel (block 0 0 .east st) c { valid := true, x := x, y := y }

/-! ### WellFormed -/

theorem test_wellFormed_refuses_opcode_byte : (Instr.nopDefault 0x2B).wellFormed = false := by decide
theorem test_wellFormed_refuses_hex_byte : (Instr.nopDefault 0x61).wellFormed = false := by decide
theorem test_wellFormed_accepts : (Instr.nopDefault 0x3B).wellFormed = true ∧ Instr.add.wellFormed = true := by decide

/-! ### Decoding: the words of 30_encoding.md section 2, bit 7 first -/

theorem test_decode_movement :
    decodeByte 0b00111110 = .goEast ∧ decodeByte 0b00111100 = .goWest ∧ decodeByte 0b01110110 = .goSouth ∧
    decodeByte 0b01011110 = .goNorth ∧ decodeByte 0b00111111 = .goRandom := by decide
theorem test_decode_arithmetic :
    decodeByte 0b00101011 = .add ∧ decodeByte 0b00101101 = .sub ∧ decodeByte 0b00101010 = .mul ∧
    decodeByte 0b00101111 = .div ∧ decodeByte 0b00100101 = .mod := by decide
theorem test_decode_logic :
    decodeByte 0b00100001 = .not ∧ decodeByte 0b01100000 = .greater ∧ decodeByte 0b01111100 = .ifVertical ∧
    decodeByte 0b01011111 = .ifHorizontal ∧ decodeByte 0b01011100 = .swap := by decide
theorem test_decode_stack : decodeByte 0b00111010 = .dup ∧ decodeByte 0b00100100 = .drop := by decide
theorem test_decode_memory :
    decodeByte 0b01100111 = .get ∧ decodeByte 0b01000111 = .getHex ∧ decodeByte 0b01110000 = .put ∧
    decodeByte 0b01010000 = .putHex := by decide
theorem test_decode_flow :
    decodeByte 0b00100011 = .skip ∧ decodeByte 0b00100111 = .quote ∧ decodeByte 0b01101010 = .jump ∧
    decodeByte 0b01101100 = .label := by decide
theorem test_decode_drawing :
    decodeByte 0b00101110 = .pixel ∧ decodeByte 0b00101100 = .sprite ∧ decodeByte 0b01000011 = .clear := by decide
theorem test_decode_control : decodeByte 0b00100000 = .nopSpace ∧ decodeByte 0b01000000 = .halt := by decide
theorem test_decode_digits :
    decodeByte 0b00110000 = .pushHex0 ∧ decodeByte 0b00110001 = .pushHex1 ∧ decodeByte 0b00110010 = .pushHex2 ∧
    decodeByte 0b00110011 = .pushHex3 ∧ decodeByte 0b00110100 = .pushHex4 ∧ decodeByte 0b00110101 = .pushHex5 ∧
    decodeByte 0b00110110 = .pushHex6 ∧ decodeByte 0b00110111 = .pushHex7 := by decide
theorem test_decode_digits_and_letters :
    decodeByte 0b00111000 = .pushHex8 ∧ decodeByte 0b00111001 = .pushHex9 ∧ decodeByte 0b01100001 = .pushHexA ∧
    decodeByte 0b01100010 = .pushHexB ∧ decodeByte 0b01100011 = .pushHexC ∧ decodeByte 0b01100100 = .pushHexD ∧
    decodeByte 0b01100101 = .pushHexE ∧ decodeByte 0b01100110 = .pushHexF := by decide
/-- D-8: `A`, `z`, 0x00, 0xFF, `;` and the double quote are default no-ops. -/
theorem test_decode_default :
    decodeByte 0x41 = .nopDefault 0x41 ∧ decodeByte 0x7A = .nopDefault 0x7A ∧ decodeByte 0x00 = .nopDefault 0x00 ∧
    decodeByte 0xFF = .nopDefault 0xFF ∧ decodeByte 0x3B = .nopDefault 0x3B ∧ decodeByte 0x22 = .nopDefault 0x22 := by
  decide
theorem test_decode_takes_one_byte :
    decode [0x27, 0x40] = .ok (.quote, [0x40]) ∧ decode [] = .error .noByte := ⟨rfl, rfl⟩
theorem test_decodeTableWord : decodeTableWord 8 0x40 = some .halt ∧ decodeTableWord 8 0 = some (.nopDefault 0) := by decide
/-- HexDecode: the bytes listed under 95_test_vectors.md section 2.1. -/
theorem test_hexDecode :
    hexDecode 0x30 = 0 ∧ hexDecode 0x39 = 9 ∧ hexDecode 0x61 = 10 ∧ hexDecode 0x66 = 15 ∧ hexDecode 0x41 = 0xFF ∧
    hexDecode 0x67 = 0xFF ∧ hexDecode 0x2F = 0xFF ∧ hexDecode 0x3A = 0xFF ∧ hexDecode 0x60 = 0xFF := by decide

/-! ### Fetch and dispatch -/

/-- From reset, the word placed at the fetch is what runs. -/
theorem test_withFetchWord : (match step (State.reset.withFetchWord 8 0x37) with
    | .next t => decide (t.stack = [7] ∧ t.ipX = 1)
    | .fault _ => false
    | .refused _ => false) = true := by decide
/-- D-6: the row fetched from is IP.y mod 128. -/
theorem test_fetch_row_alias :
    (match step (withBytes (block 3 200 .east []) 3 72 [0x35]) with
      | .next t => decide (t.stack = [5])
      | .fault _ => false
      | .refused _ => false) = true := by decide
/-- D-1 to D-5. -/
theorem test_advance_wraps :
    ipAfter 0x00 (block 255 0 .east []) = some (0, 0, .east) ∧ ipAfter 0x00 (block 0 0 .west []) = some (255, 0, .west) ∧
    ipAfter 0x00 (block 0 127 .south []) = some (0, 128, .south) ∧
    ipAfter 0x00 (block 0 255 .south []) = some (0, 0, .south) ∧
    ipAfter 0x00 (block 0 0 .north []) = some (0, 255, .north) := by decide
/-- D-10: ERR is rewritten by every step, OVF_SEEN is not. -/
theorem test_err_is_rewritten :
    (after 0x20 { State.reset with err := .stackOverflow, ovfSeen := true }).map (fun t => (t.err, t.ovfSeen)) =
      some (.none, true) := by decide
/-- D-11, D-12, C-6: a stopped block takes no step. -/
theorem test_stopped : after 0x3E { State.reset with shutdown := true } = none ∧
    after 0x3E { State.reset with fault := true } = none := ⟨rfl, rfl⟩

/-! ### One step per instruction -/

/-- M-1 to M-4. -/
theorem test_turns :
    ipAfter 0x3E (block 5 5 .north []) = some (6, 5, .east) ∧ ipAfter 0x3C (block 5 5 .east []) = some (4, 5, .west) ∧
    ipAfter 0x76 (block 5 127 .east []) = some (5, 128, .south) ∧
    ipAfter 0x5E (block 5 0 .east []) = some (5, 255, .north) := by decide
/-- M-5, with the draw left free: DIR and the advance both follow it. -/
theorem test_random (r : BitVec 2) (h : Config.rand2 0 = r) :
    exec .goRandom (block 5 5 .east []) =
      .next { block (advance 5 5 (dirOfCode r)).1 (advance 5 5 (dirOfCode r)).2 (dirOfCode r) [] with draws := 1 } := by
  subst h; rfl
/-- A-1 to A-3. -/
theorem test_add : stackAfter 0x2B [2, 3] = some [5] ∧ stackAfter 0x2B [200, 100] = some [44] ∧
    stackAfter 0x2B [9] = some [9] := by decide
/-- A-4 to A-6. -/
theorem test_sub : stackAfter 0x2D [2, 1] = some [255] ∧ stackAfter 0x2D [1, 2] = some [1] ∧
    stackAfter 0x2D [] = some [0] := by decide
/-- A-7 to A-9. -/
theorem test_mul : stackAfter 0x2A [15, 15] = some [225] ∧ stackAfter 0x2A [16, 16] = some [0] ∧
    stackAfter 0x2A [255, 255] = some [1] := by decide
/-- A-10 to A-13. -/
theorem test_div : stackAfter 0x2F [8, 2] = some [0] ∧ stackAfter 0x2F [2, 8] = some [4] ∧
    stackAfter 0x2F [2, 7] = some [3] ∧ stackAfter 0x2F [5, 0] = some [0] := by decide
/-- A-14: the trap leaves the stack and the IP. -/
theorem test_div_by_zero : (after 0x2F (block 7 0 .east [0, 5])).map (fun t =>
    (t.stack, t.ipX, t.fault, t.err)) = some ([5, 0], 7, true, .divByZero) := by decide
/-- A-16 to A-18. -/
theorem test_mod : stackAfter 0x25 [3, 5] = some [2] ∧ stackAfter 0x25 [5, 3] = some [3] ∧
    stackAfter 0x25 [7, 0] = some [0] := by decide
/-- A-19. -/
theorem test_mod_by_zero : (after 0x25 (block 7 0 .east [5])).map (fun t =>
    (t.stack, t.ipX, t.fault, t.err)) = some ([5], 7, true, .divByZero) := by decide
/-- L-1 to L-3. -/
theorem test_not : stackAfter 0x21 [0] = some [1] ∧ stackAfter 0x21 [7] = some [0] ∧ stackAfter 0x21 [] = some [1] := by
  decide
/-- L-4 to L-7. -/
theorem test_greater : stackAfter 0x60 [5, 3] = some [1] ∧ stackAfter 0x60 [3, 5] = some [0] ∧
    stackAfter 0x60 [4, 4] = some [0] ∧ stackAfter 0x60 [] = some [0] := by decide
/-- L-8 to L-10. -/
theorem test_ifVertical : ipAfter 0x7C (block 5 5 .east [0]) = some (5, 6, .south) ∧
    ipAfter 0x7C (block 5 5 .east [1]) = some (5, 4, .north) ∧
    ipAfter 0x7C (block 5 5 .west []) = some (5, 6, .south) := by decide
/-- L-11 and L-12. -/
theorem test_ifHorizontal : ipAfter 0x5F (block 5 5 .north [0]) = some (6, 5, .east) ∧
    ipAfter 0x5F (block 5 5 .east [200]) = some (4, 5, .west) ∧ stackAfter 0x5F [200] = some [] := by decide
/-- L-13 to L-15. -/
theorem test_swap : stackAfter 0x5C [1, 2] = some [2, 1] ∧ stackAfter 0x5C [7] = some [7, 0] ∧
    stackAfter 0x5C [] = some [0, 0] := by decide
/-- S-1 and S-2. -/
theorem test_dup : stackAfter 0x3A [7] = some [7, 7] ∧ stackAfter 0x3A [] = some [0] := by decide
/-- S-3 and S-4. -/
theorem test_dup_deep :
    (after 0x3A (deep 511 9)).map (fun t => (t.stack.length, t.stack.take 2, t.err, t.ovfSeen)) =
      some (512, [9, 0], .stackOverflow, true) ∧
    (after 0x3A (deep 510 9)).map (fun t => (t.stack.length, t.stack.take 2, t.err)) = some (512, [9, 9], .none) := by
  decide +kernel
/-- S-5 and S-6. -/
theorem test_drop : stackAfter 0x24 [1, 2] = some [1] ∧ stackAfter 0x24 [] = some [] := by decide
/-- F-1 and F-2. -/
theorem test_get :
    (after 0x67 (withBytes (block 0 0 .east [3, 2]) 2 3 [0x41])).map (·.stack) = some [0x41] ∧
    (after 0x67 (withBytes (block 0 0 .east [200, 255]) 255 72 [0x11])).map (·.stack) = some [0x11] := by decide
/-- F-3. -/
theorem test_get_itself : stackAfter 0x67 [] = some [0x67] := by decide
/-- F-4 and F-5. -/
theorem test_getHex :
    (after 0x47 (withBytes (block 0 0 .east [4, 4]) 4 4 [0x63])).map (·.stack) = some [12] ∧
    (after 0x47 (withBytes (block 0 0 .east [4, 4]) 4 4 [0x43])).map (·.stack) = some [255] := by decide
/-- F-6 and F-7. -/
theorem test_put : (after 0x70 (block 0 0 .east [0x40, 1, 5])).map (fun t => (cell 5 1 t, t.stack)) = some (0x40, []) ∧
    (after 0x70 (block 0 0 .east [0x41, 130, 44])).map (cell 44 2) = some 0x41 := by decide
/-- F-10: the write of 0 removes the cell from the list. -/
theorem test_put_zero : (after 0x70 (block 0 0 .east [])).map (·.grid) = some [] := by decide
/-- F-8 and F-9. -/
theorem test_putHex : (after 0x50 (block 0 0 .east [0x37, 1, 5])).map (cell 5 1) = some 7 ∧
    (after 0x50 (block 0 0 .east [0x2A, 1, 5])).map (cell 5 1) = some 0xFF := by decide
/-- F-11 to F-13. -/
theorem test_skip : ipAfter 0x23 (block 3 0 .east []) = some (5, 0, .east) ∧
    ipAfter 0x23 (block 255 0 .east []) = some (1, 0, .east) ∧
    ipAfter 0x23 (block 3 3 .north []) = some (3, 1, .north) := by decide
/-- F-14. -/
theorem test_quote : (after 0x27 (withBytes (block 255 3 .east []) 0 3 [0x78])).map (fun t => (t.stack, t.ipX, t.ipY)) =
    some ([0x78], 1, 3) := by decide
/-- F-16. -/
theorem test_quote_deep : (after 0x27 (deep 511 9)).map (fun t => (t.stack.length, t.ipX, t.err, t.ovfSeen)) =
    some (512, 2, .stackOverflow, true) := by decide +kernel
/-- F-17 to F-20. -/
theorem test_jump : ipAfter 0x6A (block 0 0 .east [5, 130]) = some (131, 5, .east) ∧
    ipAfter 0x6A (block 0 0 .east [130, 5]) = some (6, 130, .east) ∧ ipAfter 0x6A (block 0 0 .east []) = some (1, 0, .east) ∧
    ipAfter 0x6A (block 0 0 .west [0, 7]) = some (6, 0, .west) := by decide
/-- F-21 to F-24. -/
theorem test_label :
    (after 0x6C (labelled 0x61 1 0 [0x61])).map (fun t => t.stack.reverse) = some [0, 2] ∧
    (after 0x6C (labelled 0x61 1 0 [0x62])).map (·.stack) = some [] ∧
    (after 0x6C (labelled 0x61 1 0 [])).map (·.stack) = some [] ∧
    (after 0x6C (labelled 0x71 255 2 [0x71])).map (fun t => t.stack.reverse) = some [2, 0] := by decide +kernel
/-- F-25. -/
theorem test_label_deep :
    (after 0x6C (setLabel (deep 511 0x61) 0x61 { valid := true, x := 1, y := 0 })).map
      (fun t => (t.stack.length, t.stack.head?, t.err, t.ovfSeen)) = some (512, some 0, .stackOverflow, true) := by
  decide +kernel
/-- G-1 and G-2. -/
theorem test_pixel :
    (after 0x2E (block 0 0 .east [0, 5])).map (fun t => (t.fb, t.redraw, t.stack)) = some ([(5, 1)], true, []) ∧
    (after 0x2E (block 0 0 .east [255, 255])).map (·.fb) = some [(15 * 84 + 3, 1)] := by decide
/-- G-3 to G-5. -/
theorem test_pixel_wraps : (after 0x2E (block 0 0 .east [48, 84])).map (·.fb) = some [(0, 1)] ∧
    (after 0x2E { block 0 0 .east [0, 5] with fb := [(5, 1)] }).map (fun t => (t.fb, t.redraw)) = some ([(5, 1)], true) := by
  decide
/-- G-8: `ff818181818181ff` at (80, 44) wraps both ways. -/
theorem test_sprite_wraps :
    (after 0x2C (withBytes (block 0 0 .east [44, 80, 1, 0]) 0 1
      ([0x66, 0x66, 0x38, 0x31, 0x38, 0x31, 0x38, 0x31] ++ [0x38, 0x31, 0x38, 0x31, 0x38, 0x31, 0x66, 0x66]))).map
      (fun t => ([44, 45, 47, 0, 2, 3, 4].map fun y => litColumns y t)) =
    some [[0, 1, 2, 3, 80, 81, 82, 83], [3, 80], [3, 80], [3, 80], [3, 80], [0, 1, 2, 3, 80, 81, 82, 83], []] := by
  decide +kernel
/-- G-12: the ROM `,@` read as its own sprite. -/
theorem test_sprite_of_program :
    (after 0x2C (withBytes (block 0 0 .east []) 1 0 [0x40])).map (fun t => (litColumns 0 t, litColumns 7 t, litColumns 8 t)) =
      some ([0, 1, 2, 3, 4, 5, 6, 7], [0, 1, 2, 3, 4, 5, 6, 7], []) := by decide +kernel
/-- The SpriteLine rows `a 5`, `0 g`, `g 0`, `A 5`, `5 A`. -/
theorem test_spriteLine :
    spriteLine (withBytes State.reset 0 0 [0x61, 0x35, 0x30, 0x67, 0x67, 0x30, 0x41, 0x35, 0x35, 0x41]) 0 0 0 = 0xA5 ∧
    ([1, 2, 3, 4].map (spriteLine (withBytes State.reset 0 0
      [0x61, 0x35, 0x30, 0x67, 0x67, 0x30, 0x41, 0x35, 0x35, 0x41]) 0 0)) = [0xFF, 0xF0, 0xF5, 0xFF] := by decide +kernel
/-- W6. -/
theorem test_clear :
    (after 0x43 { block 0 0 .east [7] with fb := [(0, 1), (20 * 84 + 40, 1), (4031, 1)] }).map
      (fun t => (t.fb, t.redraw, t.stack)) = some ([], true, [7]) := by decide
/-- C-1 and W3. -/
theorem test_space : ipAfter 0x20 (block 255 0 .east []) = some (0, 0, .east) := by decide
/-- C-2 to C-5. -/
theorem test_halt :
    (after 0x40 (block 4 0 .east [])).map (fun t => (t.ipX, t.ipY, t.shutdown)) = some (1, 0, true) ∧
    ipAfter 0x40 (block 9 9 .west []) = some (255, 0, .west) ∧ ipAfter 0x40 (block 9 9 .south []) = some (0, 1, .south) ∧
    ipAfter 0x40 (block 9 9 .north []) = some (0, 255, .north) := by decide
/-- D-7, with every literal. -/
theorem test_literals :
    [0x30, 0x31, 0x32, 0x33, 0x34, 0x35, 0x36, 0x37].map (fun b => stackAfter b []) =
      [some [0], some [1], some [2], some [3], some [4], some [5], some [6], some [7]] ∧
    [0x38, 0x39, 0x61, 0x62, 0x63, 0x64, 0x65, 0x66].map (fun b => stackAfter b []) =
      [some [8], some [9], some [10], some [11], some [12], some [13], some [14], some [15]] := by decide +kernel
/-- D-9. -/
theorem test_literal_deep :
    (after 0x37 (deep 511 4)).map (fun t => (t.stack.length, t.stack.head?, t.ipX, t.err, t.ovfSeen)) =
      some (512, some 4, 1, .stackOverflow, true) := by decide +kernel
/-- D-8: the default no-op. -/
theorem test_default : (after 0x3B (block 0 0 .east [1])).map (fun t => (t.stack, t.ipX, t.err)) = some ([1], 1, .none) := by
  decide

/-! ### Label scan, loader and host -/

/-- Section 2.9: a `;` in a row, two in sequence, one before a blank. -/
theorem test_scanCell :
    labelOf (scanCell 0 (withBytes State.reset 10 0 [0x3B, 0x61]) 10) 0x61 = { valid := true, x := 11, y := 0 } ∧
    labelOf (scanCell 0 (withBytes State.reset 20 0 [0x3B, 0x3B, 0x62]) 20) 0x3B = { valid := true, x := 21, y := 0 } ∧
    labelOf (scanCell 2 (withBytes State.reset 254 2 [0x3B, 0x71]) 254) 0x71 = { valid := true, x := 255, y := 2 } := by
  decide +kernel
/-- Section 2.10: `ab`, newline, `cd`: the first line, its padding to 256 columns, the second line in row 1. -/
theorem test_loader_writes :
    romWrites [0x61, 0x62, 0x0A, 0x63, 0x64] 0 0 =
      [(0, 0x61), (1, 0x62)] ++ padCells 2 254 ++ [(256, 0x63), (257, 0x64)] := by decide +kernel
/-- A trailing newline ends the last line and begins none. -/
theorem test_loader_lines :
    romLines [0x61, 0x0A, 0x0A, 0x62] = [[0x61], [], [0x62]] ∧ romLines [0x61, 0x0A] = [[0x61]] ∧
    romWellFormed (List.replicate 255 0x20) = false ∧ romWellFormed (List.replicate 254 0x20) = true := by decide +kernel
/-- 20_memory.md section 3: the last index of the view, and the first outside it. -/
theorem test_fb_view : fbReadView 4031 { State.reset with fb := [(4031, 1)] } = some 1 ∧
    fbReadView 4032 State.reset = none := by decide +kernel
/-- 60_exceptions.md section 4: a LOAD_WRITE after a STEP is one the host never makes. -/
theorem test_host_load_after_step :
    hostMove (.loadWrite 0 0) ⟨State.reset, .running⟩ = .refused .hostOutOfTurn := rfl

/-! ### Witnesses: concrete states and operands that meet the hypotheses of each statement, clause by clause -/

/-- An enabled, legal state with something in it. -/
def sample : State := { State.reset with stack := [7, 5], grid := [(0, 0x3A)], fb := [(5, 1)] }

theorem deep_length (n : Nat) (top : Byte) : (deep n top).stack.length = n + 1 := by simp [deep]

theorem sample_legal : sample.Legal where
  grid_wf := by decide
  fb_wf := by decide
  stack_le := by decide
  label_x := fun c h => by simp [labelOf, sample, State.reset, LabelEntry.empty] at h
  fault_iff := by decide
  ovf_seen := by decide

theorem witness_PopTakesTopOrReadsZero : State.reset.stack = [] ∧ sample.stack = 7 :: [5] := ⟨rfl, rfl⟩
theorem witness_PushStoresOrReportsOverflow : (deep 510 0).stack.length < 512 ∧ (deep 511 0).stack.length = 512 := by
  simp [deep_length]
theorem witness_GridAddressSlicesBits : 8 ≤ 8 ∧ (0xFF : BitVec 8).toInt = -1 ∧ (0x1FF : BitVec 9).toInt = -1 := by decide
theorem witness_GridWrittenOnlyByWrites : Instr.dup ≠ .put ∧ Instr.dup ≠ .putHex ∧
    exec .dup sample = .next { sample with stack := [7, 7, 5], ipX := 1 } := ⟨by decide, by decide, rfl⟩
theorem witness_FramebufferViewIsRowMajor : 83 < 84 ∧ 47 < 48 ∧ 4032 ≤ (4032 : BitVec 12).toNat ∧
    (4031 : BitVec 12).toNat < 4032 := by decide
theorem witness_DecodeAndEncodeAgree : (Instr.nopDefault 0x00).wellFormed = true ∧ (Instr.nopDefault 0xFF).wellFormed = true ∧
    Instr.pushHexF.wellFormed = true := by decide
theorem witness_HexDecodeByRange :
    (0x30 ≤ (0x30 : Byte).toNat ∧ (0x39 : Byte).toNat ≤ 0x39) ∧ (0x61 ≤ (0x61 : Byte).toNat ∧ (0x66 : Byte).toNat ≤ 0x66) ∧
    (0x2F : Byte).toNat < 0x30 ∧ (0x39 < (0x3A : Byte).toNat ∧ (0x60 : Byte).toNat < 0x61) ∧ 0x66 < (0x67 : Byte).toNat := by
  decide
theorem witness_DefaultBytesAreNoOps : isDefaultByte 0x00 = true ∧ isDefaultByte 0x3B = true ∧ isDefaultByte 0xFF = true := by
  decide
theorem witness_StepRunsDecodedInstruction : sample.fault = false ∧ sample.shutdown = false ∧
    decodeByte (memRead sample (gridAddr sample.ipX.toNat sample.ipY.toNat)) = .dup := by decide
theorem witness_StoppedBlockTakesNoStep :
    State.isFaulted { sample with fault := true } = true ∧ State.isFaulted { sample with fault := true, shutdown := true } = true ∧
    State.isFinal { sample with shutdown := true } = true ∧ (sample.isFaulted = false ∧ sample.isFinal = false) := by decide
theorem witness_DirectionMuxInputs :
    exec .goEast sample = .next { sample with ipX := 1 } ∧ exec .goWest sample = .next { sample with dir := .west, ipX := 255 } ∧
    exec .goSouth sample = .next { sample with dir := .south, ipY := 1 } ∧
    exec .goNorth sample = .next { sample with dir := .north, ipY := 255 } ∧ (∃ t, exec .goRandom sample = .next t) ∧
    exec .ifVertical sample = .next { sample with stack := [5], dir := .north, ipY := 255 } ∧
    exec .ifHorizontal sample = .next { sample with stack := [5], dir := .west, ipX := 255 } ∧
    exec .drop sample = .next { sample with stack := [5], ipX := 1 } ∧
    Instr.drop ∉ [.goEast, .goWest, .goSouth, .goNorth, .goRandom, .ifVertical, .ifHorizontal] :=
  ⟨rfl, rfl, rfl, rfl, exec_next _ _, rfl, rfl, rfl, by decide⟩
theorem witness_AddSubMulReplaceTopTwo : State.reset.stack.length ≤ 512 ∧ sample.stack.length ≤ 512 ∧
    (deep 511 1).stack.length ≤ 512 := by
  rw [deep_length]; decide
theorem witness_DivModReplaceTopTwo : sample.stack.length ≤ 512 ∧ sample.popped 1 ≠ 0 := by decide
theorem witness_ZeroDivisorTrapsPrecisely : (block 0 0 .east [0, 5]).popped 1 = 0 ∧ State.reset.popped 1 = 0 ∧
    State.reset.stack.length < 2 ∧ (block 0 0 .east [5]).stack.length < 2 := by decide
theorem witness_NotAndGreaterPushTruth : State.reset.stack.length ≤ 512 ∧ sample.stack.length ≤ 512 ∧
    (deep 511 1).stack.length ≤ 512 := by
  rw [deep_length]; decide
theorem witness_BranchesFollowPoppedByte : State.reset.popped 0 = 0 ∧ (block 0 0 .east [0]).popped 0 = 0 ∧
    sample.popped 0 ≠ 0 := by decide
theorem witness_SwapExchangesTopTwo : State.reset.stack.length ≤ 512 ∧ (deep 511 1).stack.length ≤ 512 := by
  rw [deep_length]; decide
theorem witness_DupPushesTop : State.reset.stack.length < 512 ∧ (deep 510 9).stack.length < 512 ∧
    (deep 511 9).stack.length = 512 := by
  rw [deep_length, deep_length]; decide
theorem witness_GetPushesCell : sample.stack.length ≤ 512 ∧ (deep 511 1).stack.length ≤ 512 := by
  rw [deep_length]; decide
/-- (44, 130) is the cell (44, 2). -/
theorem witness_PutWritesOneCell :
    gridAddr ((block 0 0 .east [0x41, 130, 44]).popped 0).toNat ((block 0 0 .east [0x41, 130, 44]).popped 1).toNat =
      (⟨2 * 256 + 44, by decide⟩ : Fin 32768) := by decide
/-- `p` at (0, 0) writes the cell (1, 0), which is fetched next. -/
theorem witness_NextFetchSeesTheWrite : ∃ t u, exec .put (block 0 0 .east [0x41, 0, 1]) = .next t ∧
    exec .putHex (block 0 0 .east [0x41, 0, 1]) = .next u ∧
    gridAddr t.ipX.toNat t.ipY.toNat = gridAddr ((block 0 0 .east [0x41, 0, 1]).popped 0).toNat
      ((block 0 0 .east [0x41, 0, 1]).popped 1).toNat ∧
    gridAddr u.ipX.toNat u.ipY.toNat = gridAddr ((block 0 0 .east [0x41, 0, 1]).popped 0).toNat
      ((block 0 0 .east [0x41, 0, 1]).popped 1).toNat := ⟨_, _, rfl, rfl, by decide, by decide⟩
theorem witness_QuotePushesNextCell : advance (block 255 3 .east []).ipX (block 255 3 .east []).ipY .east = (0, 3) ∧
    (deep 510 9).stack.length < 512 ∧ (deep 511 9).stack.length = 512 := by
  rw [deep_length, deep_length]; decide
/-- An unknown key, a known one, and a known one on a full stack. -/
theorem witness_LabelPushesCoordinate :
    (labelOf (block 0 0 .east [0x61]) ((block 0 0 .east [0x61]).popped 0)).valid = false ∧
    (labelOf (labelled 0x61 1 0 [0x61]) ((labelled 0x61 1 0 [0x61]).popped 0)).valid = true ∧
    (labelled 0x61 1 0 [0x61]).stack.length < 512 ∧
    (labelOf (setLabel (deep 511 0x61) 0x61 { valid := true, x := 1, y := 0 }) 0x61).valid = true ∧
    (setLabel (deep 511 0x61) 0x61 { valid := true, x := 1, y := 0 }).stack.length = 512 ∧
    (setLabel (deep 511 0x61) 0x61 { valid := true, x := 1, y := 0 }).popped 0 = 0x61 := by decide +kernel
/-- The last line of a sprite, once with a low hex digit and once without. -/
theorem witness_SpriteLineFromHexCells : 7 < 8 ∧
    hexDecode (cell 14 0 (withBytes State.reset 14 0 [0x61, 0x35])) = 10 ∧
    hexDecode (cell 15 0 (withBytes State.reset 14 0 [0x61, 0x35])) = 5 ∧ (5 : Byte) ≠ 0xFF ∧
    hexDecode (cell 14 0 State.reset) = 0xFF ∧ hexDecode (cell 15 0 State.reset) = 0xFF := by decide
theorem witness_SpriteOverwritesSixtyFourCells : ∃ s : State, s.popped 0 = 250 ∧ s.popped 1 = 4 ∧ s.popped 2 = 80 ∧
    s.popped 3 = 44 := ⟨block 0 0 .east [44, 80, 4, 250], by decide⟩
theorem witness_HaltShutsDownPastOrigin : (block 9 9 .east []).dir = .east ∧ (block 9 9 .west []).dir = .west ∧
    (block 9 9 .south []).dir = .south ∧ (block 9 9 .north []).dir = .north := by decide
theorem witness_HexLiteralsPushTheirValue :
    (∀ p ∈ [((0x30 : Byte), Instr.pushHex0, (0 : Byte)), (0x66, .pushHexF, 15)],
      p ∈ ([(0x30, .pushHex0, 0), (0x31, .pushHex1, 1), (0x32, .pushHex2, 2), (0x33, .pushHex3, 3),
        (0x34, .pushHex4, 4), (0x35, .pushHex5, 5), (0x36, .pushHex6, 6), (0x37, .pushHex7, 7)]
        ++ [(0x38, .pushHex8, 8), (0x39, .pushHex9, 9), (0x61, .pushHexA, 10), (0x62, .pushHexB, 11),
        (0x63, .pushHexC, 12), (0x64, .pushHexD, 13), (0x65, .pushHexE, 14), (0x66, .pushHexF, 15)]
          : List (Byte × Instr × Byte))) ∧
    (deep 510 4).stack.length < 512 ∧ (deep 511 4).stack.length = 512 := by
  rw [deep_length, deep_length]; decide
theorem witness_OverflowOnlyFromFourKinds : (deep 511 9).stack.length ≤ 512 ∧
    ∃ t, exec .dup (deep 511 9) = .next t ∧ t.err = .stackOverflow :=
  ⟨by rw [deep_length], _, rfl, by decide +kernel⟩
theorem witness_ErrorReportsFollowTheStep :
    exec .div (block 7 0 .east [0, 5]) = .next { block 7 0 .east [0, 5] with fault := true, err := .divByZero } ∧
    exec .drop sample = .next { sample with stack := [5], ipX := 1 } := ⟨rfl, rfl⟩
theorem witness_OnlyDrawingTouchesFramebuffer : Instr.drop ∉ [.pixel, .sprite, .clear] ∧ Instr.clear ∈ [.pixel, .sprite, .clear] ∧
    exec .drop sample = .next { sample with stack := [5], ipX := 1 } ∧
    exec .clear sample = .next { sample with fb := [], redraw := true, ipX := 1 } := ⟨by decide, by decide, rfl, rfl⟩
theorem witness_InstructionsLeaveHostStateAlone :
    exec .halt sample = .next { sample with shutdown := true, ipX := 1 } ∧
    exec .drop sample = .next { sample with stack := [5], ipX := 1 } ∧ (∃ t, exec .goRandom sample = .next t) :=
  ⟨rfl, rfl, exec_next _ _⟩
theorem witness_StepKeepsLegal : sample.Legal ∧ step sample = .next { sample with stack := [7, 7, 5], ipX := 1 } :=
  ⟨sample_legal, rfl⟩
theorem witness_HostOperationsKeepLegal : sample.Legal := sample_legal
/-- They have the same draw counter, as sameRow asks. -/
theorem witness_RowAliasIsInvisible : sameRow (block 3 72 .east [1]) (block 3 200 .east [1]) ∧
    (block 3 72 .east [1]).ipY ≠ (block 3 200 .east [1]).ipY := ⟨⟨by decide, rfl⟩, by decide⟩
/-- Row 200 mod 128 of an empty grid. -/
theorem witness_EmptyRowRunsEast : (block 3 200 .east [1]).fault = false ∧ (block 3 200 .east [1]).shutdown = false ∧
    (block 3 200 .east [1]).dir = .east ∧ (block 3 200 .east [1]).err = .none ∧
    ∀ x : Byte, memRead (block 3 200 .east [1]) (gridAddr x.toNat (block 3 200 .east [1]).ipY.toNat) = 0 :=
  ⟨rfl, rfl, rfl, rfl, fun _ => rfl⟩
/-- A label whose cells match, with a `p` to the next cell on the stack. -/
def matching : State := withBytes (labelled 0x61 1 0 [0x20, 0, 2]) 0 0 [0x3B, 0x61]

theorem witness_ScannedLabelsMatchTheGrid :
    (labelOf (labelScan (withBytes State.reset 0 0 [0x3B, 0x61])) 0x61).valid = true ∧ labelCellsMatch matching 0x61 ∧
    (∃ t, exec .put matching = .next t) ∧ (∃ t, exec .dup matching = .next t) ∧ Instr.dup ≠ .put ∧ Instr.dup ≠ .putHex ∧
    gridAddr (matching.popped 0).toNat (matching.popped 1).toNat ≠
      gridAddr (((labelOf matching 0x61).x.toNat : Int) - 1) (labelOf matching 0x61).y.toNat ∧
    gridAddr (matching.popped 0).toNat (matching.popped 1).toNat ≠
      gridAddr (labelOf matching 0x61).x.toNat (labelOf matching 0x61).y.toNat :=
  ⟨labelScan_knows_first (s := withBytes State.reset 0 0 [0x3B, 0x61]) (by decide),
    ⟨by decide +kernel, by decide +kernel⟩, exec_next _ _, exec_next _ _, by decide, by decide, by decide +kernel,
    by decide +kernel⟩
/-- `;a` twice, the later in the last cells the scan reads; and a grid without a `;`. -/
theorem witness_LastLabelInScanOrderWins :
    (marksLabel { State.reset with grid := [(0, 0x3B), (1, 0x61), (32766, 0x3B), (32767, 0x61)] } 0x61 254 127 ∧
      ∀ x' y', marksLabel { State.reset with grid := [(0, 0x3B), (1, 0x61), (32766, 0x3B), (32767, 0x61)] } 0x61 x' y' →
        y' < 127 ∨ y' = 127 ∧ x' ≤ 254) ∧
    ∀ x y, ¬ marksLabel State.reset 0x61 x y := by
  refine ⟨⟨⟨by decide, by decide, by decide, by decide⟩, fun x' y' h => ?_⟩, fun x y h => ?_⟩
  · have hx := h.1
    have hy := h.2.1
    omega
  · exact absurd (show (0 : Byte) = 0x3B from h.2.2.1) (by decide)
/-- 128 empty lines and no unended part; 127 lines, one of 254 bytes, and an unended part. -/
theorem witness_LoaderPlacesLines :
    ((List.replicate 128 ([] : List Byte)).length ≤ 128 ∧ ∀ l ∈ List.replicate 128 ([] : List Byte) ++ [[]],
      l.length ≤ 254 ∧ (0x0A : Byte) ∉ l) ∧
    ((List.replicate 126 ([] : List Byte) ++ [List.replicate 254 0x20]).length ≤ 127 ∧ ([0x40] : List Byte) ≠ [] ∧
      ∀ l ∈ (List.replicate 126 ([] : List Byte) ++ [List.replicate 254 0x20]) ++ [[0x40]],
        l.length ≤ 254 ∧ (0x0A : Byte) ∉ l) ∧ State.reset.grid = [] := by
  decide +kernel
theorem witness_InitResetsTheBlock : initBlock sample = State.reset := rfl
/-- Every phase, an enabled, a faulted and a shut-down block, an index in the view and one outside it, a move that is not
INIT. -/
theorem witness_HostKeepsTheLoadProtocol :
    (Session.mk sample .powerOn).phase = .powerOn ∧ (Session.mk sample .initialised).phase = .initialised ∧
    (Session.mk sample .loading).phase = .loading ∧ (Session.mk sample .loaded).phase = .loaded ∧
    (Session.mk sample .running).phase = .running ∧ (Session.mk sample .loadFailed).phase = .loadFailed ∧
    ((Session.mk sample .running).block.fault = false ∧ (Session.mk sample .running).block.shutdown = false) ∧
    (Session.mk { sample with fault := true } .running).block.fault = true ∧
    (Session.mk { sample with shutdown := true } .running).block.shutdown = true ∧
    fbReadView 4031 (Session.mk sample .loaded).block = some 0 ∧ fbReadView 4032 (Session.mk sample .loaded).block = none ∧
    HostMove.step ≠ .init := by decide
/-- The protocol's order, move by move: INIT, a LOAD_WRITE, the LABEL_SCAN, a STEP, and no load after it. -/
theorem test_host_boot :
    (match hostMove .init ⟨sample, .powerOn⟩ with
      | .next (z, _) => decide (z.phase = .initialised ∧ z.block.stack = [])
      | .fault _ => false
      | .refused _ => false) = true ∧
    (match hostMove .step ⟨sample, .loaded⟩ with
      | .next (z, r) => decide (z.phase = .running ∧ z.block.stack = [7, 7, 5] ∧ r = .stepErr 0)
      | .fault _ => false
      | .refused _ => false) = true ∧
    hostMove .labelScan ⟨sample, .running⟩ = .refused .hostOutOfTurn := ⟨by decide, by decide, rfl⟩

end Sys2Proof.Tests
end

section
/-! The stack primitives: Pop on an empty and on a non-empty stack. -/

namespace Sys2Proof.Machine

/-- 10_state.md R13, stack empty: the missing byte reads 0, and dropping it leaves the empty stack the state had. -/
theorem pop_of_stack_nil {s : State} (h : s.stack = []) : pop s = (0, s) := by
  have hpopped : s.popped 0 = 0 := by simp [State.popped, h]
  have hstack : s.withStack (s.stack.drop 1) = s := by rw [h, List.drop_nil, ← h]; rfl
  rw [pop_eq, hpopped, hstack]

/-- 10_state.md R13, stack not empty. -/
theorem pop_of_stack_cons {s : State} {v : Byte} {r : List Byte} (h : s.stack = v :: r) :
    pop s = (v, { s with stack := r }) := by
  have hpopped : s.popped 0 = v := by simp [State.popped, h]
  have hstack : s.withStack (s.stack.drop 1) = { s with stack := r } := by rw [h]; rfl
  rw [pop_eq, hpopped, hstack]

/-- Settles O1: the two cases of Pop, by whether the stack is empty. -/
theorem popTakesTopOrReadsZero : Obligations.PopTakesTopOrReadsZero :=
  fun _ => ⟨pop_of_stack_nil, fun _ _ => pop_of_stack_cons⟩

end Sys2Proof.Machine
end

section
/-! The address decoders: the torus of the grid and the torus of the framebuffer. -/

namespace Sys2Proof.Machine

/-- 20_memory.md R29: columns that agree modulo 256 are one column. -/
theorem gridAddr_congr_col {x x' : Int} (h : x % 256 = x' % 256) (y : Int) : gridAddr x y = gridAddr x' y :=
  (gridAddr_eq_iff _ _ _ _).2 ⟨h, rfl⟩

/-- 20_memory.md R29: rows that agree modulo 128 are one row. -/
theorem gridAddr_congr_row {y y' : Int} (h : y % 128 = y' % 128) (x : Int) : gridAddr x y = gridAddr x y' :=
  (gridAddr_eq_iff _ _ _ _).2 ⟨rfl, h⟩

/-- Settles O3: the formula is `gridAddr_val`, and each wrap is an equality of remainders. -/
theorem gridAddressIsToroidal : Obligations.GridAddressIsToroidal :=
  ⟨gridAddr_val,
    fun x y => ⟨gridAddr_congr_col (by decide) y, gridAddr_congr_row (by decide) x⟩,
    fun x y => ⟨gridAddr_congr_col (by decide) y, gridAddr_congr_row (by decide) x⟩⟩

/-- Settles O6: the formula is `fbAddr_val`; 257 and 5 agree modulo 84, 257 and 1 do not. -/
theorem framebufferAddressIsToroidal : Obligations.FramebufferAddressIsToroidal := by
  refine ⟨fbAddr_val, ?_, ?_⟩
  · rw [fbAddr_eq_iff]
    decide
  · rw [ne_eq, fbAddr_eq_iff]
    decide

end Sys2Proof.Machine
end

section
/-! What a write to the framebuffer or to the grid leaves unchanged, and which instructions change the program: the grid
and the label index. -/

namespace Sys2Proof.Machine

theorem fbWrite_frame (s : State) (x y : Int) (bit : Bit) : { fbWrite s x y bit with fb := s.fb } = s := rfl

theorem memWrite_frame (s : State) (a : Fin 32768) (v : Byte) : { memWrite s a v with grid := s.grid } = s := rfl

/-- Settles O7: read after write, and the frame of the write. -/
theorem framebufferReadsLastWrite : Obligations.FramebufferReadsLastWrite :=
  fun s x y bit => ⟨fbRead_fbWrite s x y bit, fbWrite_frame s x y bit⟩

/-- `t` holds the program of `s`: the same grid and the same label index. -/
def SameProgram (s t : State) : Prop := t.grid = s.grid ∧ t.labels = s.labels

variable {i : Instr} {s t : State}

theorem SameProgram.trans {u : State} (h : SameProgram s t) (k : SameProgram t u) : SameProgram s u :=
  ⟨k.1.trans h.1, k.2.trans h.2⟩

theorem SameProgram.memRead_eq (h : SameProgram s t) (a : Fin 32768) : memRead t a = memRead s a :=
  memRead_congr h.1 a

/-! ### The operand forms that only read the program -/

theorem push_sameProgram (v : Byte) (s : State) : SameProgram s (push v s) := ⟨push_grid v s, push_labels v s⟩

theorem withStack_sameProgram (s : State) (l : List Byte) : SameProgram s (s.withStack l) := ⟨rfl, rfl⟩

theorem unaryOp_sameProgram (f : Byte → Byte) (s : State) : SameProgram s (unaryOp f s) := by
  rw [unaryOp_eq]
  exact (withStack_sameProgram s _).trans (push_sameProgram _ _)

theorem binaryOp_sameProgram (f : Byte → Byte → Byte) (s : State) : SameProgram s (binaryOp f s) := by
  rw [binaryOp_eq]
  exact (withStack_sameProgram s _).trans (push_sameProgram _ _)

theorem loadOp_sameProgram (f : Byte → Byte) (s : State) : SameProgram s (loadOp f s) := by
  rw [loadOp_eq]
  exact (withStack_sameProgram s _).trans (push_sameProgram _ _)

theorem branchOp_sameProgram (zero other : Dir) (s : State) : SameProgram s (branchOp zero other s) := by
  rw [branchOp_eq]
  exact ⟨rfl, rfl⟩

theorem pushLiteral_sameProgram (b : Byte) (s : State) : SameProgram s (pushLiteral b s) := push_sameProgram _ s

theorem pushLabel_sameProgram (e : LabelEntry) (s : State) : SameProgram s (pushLabel e s) :=
  (push_sameProgram _ s).trans (push_sameProgram _ _)

/-! ### The instructions -/

/-- The start of a step and its tail advance leave the program alone. -/
theorem complete_sameProgram {f : State → State} (he : exec i s = complete f s) (hf : ∀ u, SameProgram u (f u))
    (h : exec i s = .next t) : SameProgram s t := by
  rw [he, complete_eq] at h
  cases h
  exact hf (clearErr s)

theorem divideOp_sameProgram {f : Byte → Byte → Byte} (he : exec i s = divideOp f s) (h : exec i s = .next t) :
    SameProgram s t := by
  rcases divideOp_cases f s with ⟨-, hd⟩ | ⟨-, hd⟩
  · rw [he, hd] at h
    cases h
    exact ⟨rfl, rfl⟩
  · exact complete_sameProgram (he.trans hd) (binaryOp_sameProgram f) h

theorem execLabel_sameProgram (h : exec .label s = .next t) : SameProgram s t := by
  refine complete_sameProgram (exec_label s) (fun u => ?_) h
  simp only [pop_eq]
  split
  · exact (withStack_sameProgram u _).trans (pushLabel_sameProgram _ _)
  · exact withStack_sameProgram u _

theorem execSwap_sameProgram (h : exec .swap s = .next t) : SameProgram s t := by
  refine complete_sameProgram (exec_swap s) (fun u => ?_) h
  simp only [pop2_eq]
  exact (withStack_sameProgram u _).trans ((push_sameProgram _ _).trans (push_sameProgram _ _))

/-- 20_memory.md R31, R43: every instruction but `p` and `P` leaves the grid and the label index as they were. -/
theorem exec_sameProgram (hp : i ≠ .put) (hP : i ≠ .putHex) (h : exec i s = .next t) : SameProgram s t := by
  cases i
  case put => exact absurd rfl hp
  case putHex => exact absurd rfl hP
  case add => exact complete_sameProgram (exec_add s) (binaryOp_sameProgram _) h
  case sub => exact complete_sameProgram (exec_sub s) (binaryOp_sameProgram _) h
  case mul => exact complete_sameProgram (exec_mul s) (binaryOp_sameProgram _) h
  case greater => exact complete_sameProgram (exec_greater s) (binaryOp_sameProgram _) h
  case not => exact complete_sameProgram (exec_not s) (unaryOp_sameProgram _) h
  case get => exact complete_sameProgram (exec_get s) (loadOp_sameProgram _) h
  case getHex => exact complete_sameProgram (exec_getHex s) (loadOp_sameProgram _) h
  case ifVertical => exact complete_sameProgram (exec_ifVertical s) (branchOp_sameProgram _ _) h
  case ifHorizontal => exact complete_sameProgram (exec_ifHorizontal s) (branchOp_sameProgram _ _) h
  case goEast => exact complete_sameProgram (exec_goEast s) (fun _ => ⟨rfl, rfl⟩) h
  case goWest => exact complete_sameProgram (exec_goWest s) (fun _ => ⟨rfl, rfl⟩) h
  case goSouth => exact complete_sameProgram (exec_goSouth s) (fun _ => ⟨rfl, rfl⟩) h
  case goNorth => exact complete_sameProgram (exec_goNorth s) (fun _ => ⟨rfl, rfl⟩) h
  case goRandom => exact complete_sameProgram (exec_goRandom s) (fun _ => ⟨rfl, rfl⟩) h
  case drop => exact complete_sameProgram (exec_drop s) (fun _ => ⟨rfl, rfl⟩) h
  case skip => exact complete_sameProgram (exec_skip s) (fun _ => ⟨rfl, rfl⟩) h
  case jump => exact complete_sameProgram (exec_jump s) (fun _ => ⟨rfl, rfl⟩) h
  case pixel => exact complete_sameProgram (exec_pixel s) (fun _ => ⟨rfl, rfl⟩) h
  case sprite => exact complete_sameProgram (exec_sprite s) (fun _ => ⟨rfl, rfl⟩) h
  case clear => exact complete_sameProgram (exec_clear s) (fun _ => ⟨rfl, rfl⟩) h
  case nopSpace => exact complete_sameProgram (exec_nopSpace s) (fun _ => ⟨rfl, rfl⟩) h
  case halt => exact complete_sameProgram (exec_halt s) (fun _ => ⟨rfl, rfl⟩) h
  case nopDefault b => exact complete_sameProgram (exec_nopDefault s b) (fun _ => ⟨rfl, rfl⟩) h
  case div => exact divideOp_sameProgram (exec_div s) h
  case mod => exact divideOp_sameProgram (exec_mod s) h
  case label => exact execLabel_sameProgram h
  case swap => exact execSwap_sameProgram h
  case dup => exact complete_sameProgram (exec_dup s) (fun u => push_sameProgram _ u) h
  case quote => exact complete_sameProgram (exec_quote s) (fun u => push_sameProgram _ (moveIp u)) h
  case pushHex0 => exact complete_sameProgram (exec_pushHex0 s) (pushLiteral_sameProgram _) h
  case pushHex1 => exact complete_sameProgram (exec_pushHex1 s) (pushLiteral_sameProgram _) h
  case pushHex2 => exact complete_sameProgram (exec_pushHex2 s) (pushLiteral_sameProgram _) h
  case pushHex3 => exact complete_sameProgram (exec_pushHex3 s) (pushLiteral_sameProgram _) h
  case pushHex4 => exact complete_sameProgram (exec_pushHex4 s) (pushLiteral_sameProgram _) h
  case pushHex5 => exact complete_sameProgram (exec_pushHex5 s) (pushLiteral_sameProgram _) h
  case pushHex6 => exact complete_sameProgram (exec_pushHex6 s) (pushLiteral_sameProgram _) h
  case pushHex7 => exact complete_sameProgram (exec_pushHex7 s) (pushLiteral_sameProgram _) h
  case pushHex8 => exact complete_sameProgram (exec_pushHex8 s) (pushLiteral_sameProgram _) h
  case pushHex9 => exact complete_sameProgram (exec_pushHex9 s) (pushLiteral_sameProgram _) h
  case pushHexA => exact complete_sameProgram (exec_pushHexA s) (pushLiteral_sameProgram _) h
  case pushHexB => exact complete_sameProgram (exec_pushHexB s) (pushLiteral_sameProgram _) h
  case pushHexC => exact complete_sameProgram (exec_pushHexC s) (pushLiteral_sameProgram _) h
  case pushHexD => exact complete_sameProgram (exec_pushHexD s) (pushLiteral_sameProgram _) h
  case pushHexE => exact complete_sameProgram (exec_pushHexE s) (pushLiteral_sameProgram _) h
  case pushHexF => exact complete_sameProgram (exec_pushHexF s) (pushLiteral_sameProgram _) h

/-- 45_memory_flow.md R86, R87: after `p` or `P` the cell (x, y) reads `f v`, every other cell what it read. -/
theorem memRead_complete_storeOp {f : Byte → Byte} (h : complete (storeOp f) s = .next t) (a : Fin 32768) :
    memRead t a =
      if a = gridAddr (s.popped 0).toNat (s.popped 1).toNat then f (s.popped 2) else memRead s a := by
  rw [complete_eq, storeOp_eq] at h
  cases h
  exact memRead_memWrite _ _ _ _

theorem complete_storeOp_labels {f : Byte → Byte} (h : complete (storeOp f) s = .next t) : t.labels = s.labels := by
  rw [complete_eq, storeOp_eq] at h
  cases h
  rfl

/-- What an instruction can do to the program: nothing, or the one store of `p` and `P`. -/
theorem exec_program_cases (h : exec i s = .next t) :
    SameProgram s t ∨ (i = .put ∨ i = .putHex) ∧ ∃ f, complete (storeOp f) s = .next t := by
  by_cases hp : i = .put
  · subst hp
    exact .inr ⟨.inl rfl, _, h⟩
  by_cases hP : i = .putHex
  · subst hP
    exact .inr ⟨.inr rfl, _, h⟩
  exact .inl (exec_sameProgram hp hP h)

/-- 10_state.md R15: no instruction writes the label index. -/
theorem exec_labels (h : exec i s = .next t) : t.labels = s.labels := by
  rcases exec_program_cases h with ⟨-, hl⟩ | ⟨-, f, hf⟩
  · exact hl
  · exact complete_storeOp_labels hf

/-- A cell reads as before after an instruction that is not a `p` or `P` to that very cell. -/
theorem memRead_exec_of_unwritten (h : exec i s = .next t) {a : Fin 32768}
    (ha : i ≠ .put ∧ i ≠ .putHex ∨ gridAddr (s.popped 0).toNat (s.popped 1).toNat ≠ a) :
    memRead t a = memRead s a := by
  rcases exec_program_cases h with hs | ⟨hi, f, hf⟩
  · exact hs.memRead_eq a
  · have hne : a ≠ gridAddr (s.popped 0).toNat (s.popped 1).toNat := by tauto
    rw [memRead_complete_storeOp hf, if_neg hne]

end Sys2Proof.Machine

namespace Sys2Proof.Machine

/-- Settles O5: read after write, the write's frame, and every other instruction and host operation keeps the grid. -/
theorem gridWrittenOnlyByWrites : Obligations.GridWrittenOnlyByWrites :=
  ⟨memRead_memWrite, memWrite_frame, fun _ _ _ => rfl,
    fun _ _ _ hp hP h => (exec_sameProgram hp hP h).memRead_eq,
    fun s _ a => ⟨memRead_congr (labelScan_grid s) a, rfl, rfl⟩⟩

end Sys2Proof.Machine
end

section
/-! The label index against the grid: the scan records only labels whose two cells hold `;` and the key (20_memory.md
R45), and an entry stays matched until one of its cells is written. -/

namespace Sys2Proof.Machine

/-- The two cells of a key's entry: the one of its `;` and the one of the key itself. -/
def labelCells (s : State) (c : Byte) : List (Fin 32768) :=
  [gridAddr (((labelOf s c).x.toNat : Int) - 1) (labelOf s c).y.toNat,
    gridAddr (labelOf s c).x.toNat (labelOf s c).y.toNat]

theorem labelCellsMatch_iff (s : State) (c : Byte) :
    labelCellsMatch s c ↔ (labelCells s c).map (memRead s) = [0x3B, c] := by
  simp [labelCellsMatch, labelCells]

/-- A matched key stays matched while its entry and its two cells stay. -/
theorem labelCellsMatch_of_unchanged {s t : State} {c : Byte} (h : labelCellsMatch s c)
    (hl : labelOf t c = labelOf s c) (hm : ∀ a ∈ labelCells s c, memRead t a = memRead s a) : labelCellsMatch t c := by
  have hcells : labelCells t c = labelCells s c := by rw [labelCells, labelCells, hl]
  rw [labelCellsMatch_iff] at h ⊢
  rw [hcells, List.map_congr_left hm, h]

/-- Every valid entry is matched by its cells (20_memory.md R45). -/
def LabelsMatch (s : State) : Prop := ∀ c, (labelOf s c).valid = true → labelCellsMatch s c

theorem invalidateLabels_labelsMatch (s : State) : LabelsMatch (invalidateLabels s) := by
  intro c hc
  rw [labelOf_invalidateLabels] at hc
  cases hc

/-- The entry the scan makes at (x, y) has (x, y) and the cell after it for its cells: the truncations to 8 and 7 bits
fall away in the address. -/
theorem labelCells_setLabel_scanned (s : State) (c : Byte) (x y : Nat) :
    labelCells (setLabel s c { valid := true, x := BitVec.ofNat 8 (x + 1), y := BitVec.ofNat 7 y }) c =
      [gridAddr x y, gridAddr ((x : Int) + 1) y] := by
  simp only [labelCells, labelOf_setLabel, if_true, BitVec.toNat_ofNat, List.cons.injEq, and_true, gridAddr_eq_iff]
  omega

theorem scanCell_keeps_labelsMatch {s : State} (y x : Nat) (h : LabelsMatch s) : LabelsMatch (scanCell y s x) := by
  rcases scanCell_cases y s x with ⟨-, e⟩ | ⟨hsemi, e⟩ <;> rw [e]
  · exact h
  intro c hc
  by_cases hk : c = memRead s (gridAddr ((x : Int) + 1) y)
  · rw [← hk, labelCellsMatch_iff, labelCells_setLabel_scanned, hk, ← hsemi]
    rfl
  · have hl := (labelOf_setLabel s (memRead s (gridAddr ((x : Int) + 1) y)) c
      { valid := true, x := BitVec.ofNat 8 (x + 1), y := BitVec.ofNat 7 y }).trans (if_neg hk)
    rw [hl] at hc
    exact labelCellsMatch_of_unchanged (h c hc) hl fun _ _ => rfl

theorem scanRow_keeps_labelsMatch {s : State} (y : Nat) (h : LabelsMatch s) : LabelsMatch (scanRow s y) :=
  foldl_keeps (P := LabelsMatch) (fun _ x => scanCell_keeps_labelsMatch y x) _ h

theorem labelScan_labelsMatch (s : State) : LabelsMatch (labelScan s) :=
  foldl_keeps (P := LabelsMatch) (fun _ y => scanRow_keeps_labelsMatch y) _ (invalidateLabels_labelsMatch s)

/-- An instruction that is not a `p` or `P` to one of the two cells keeps a key matched (20_memory.md R45). -/
theorem exec_keeps_labelCellsMatch {i : Instr} {s t : State} {c : Byte} (hm : labelCellsMatch s c)
    (h : exec i s = .next t)
    (hw : ∀ a ∈ labelCells s c,
      i ≠ .put ∧ i ≠ .putHex ∨ gridAddr (s.popped 0).toNat (s.popped 1).toNat ≠ a) : labelCellsMatch t c :=
  labelCellsMatch_of_unchanged hm (labelOf_congr (exec_labels h) c) fun a ha => memRead_exec_of_unwritten h (hw a ha)

/-- Settles O51: the scan's invariant, and that an unwritten label stays matched. -/
theorem scannedLabelsMatchTheGrid : Obligations.ScannedLabelsMatchTheGrid := by
  refine ⟨labelScan_labelsMatch, fun i s t c hm h hw => exec_keeps_labelCellsMatch hm h ?_⟩
  rcases hw with hi | ⟨hleft, hkey⟩
  · exact fun _ _ => .inl hi
  · exact List.forall_mem_cons.2 ⟨.inr hleft, List.forall_mem_singleton.2 (.inr hkey)⟩

end Sys2Proof.Machine
end

section
/-! Dispatch: the advance, the row of the opcode map a byte decodes from, the default no-op and the hex literals. -/

namespace Sys2Proof.Machine

/-- Settles O15: the moved coordinate is one truncation, the other one stays. -/
theorem advanceMovesOneCell : Obligations.AdvanceMovesOneCell :=
  fun _ _ => ⟨⟨toNat_trunc8 _, rfl⟩, ⟨toNat_trunc8 _, rfl⟩, ⟨rfl, toNat_trunc8 _⟩, ⟨rfl, toNat_trunc8 _⟩⟩

/-! ### The decoder -/

/-- 30_encoding.md R51: the 210 listed bytes are exactly the ones that the opcode table and the hex digits leave. -/
theorem isDefaultByte_iff :
    ∀ b : Byte, isDefaultByte b = true ↔ opcodeRows.lookup b = none ∧ isHex b = false := by
  decide

/-- 40_dispatch.md R62, R63: every hex digit has its row. -/
theorem hexPush_mem_hexRows : ∀ b : Byte, isHex b = true → (b, hexPush b) ∈ hexRows := by
  decide

theorem decodeByte_of_lookup {b : Byte} {i : Instr} (h : opcodeRows.lookup b = some i) : decodeByte b = i := by
  rw [decodeByte, h]

theorem decodeByte_of_isHex {b : Byte} (hrow : opcodeRows.lookup b = none) (hhex : isHex b = true) :
    decodeByte b = hexPush b := by
  rw [decodeByte, hrow]
  exact if_pos hhex

theorem decodeByte_of_isDefaultByte {b : Byte} (h : isDefaultByte b = true) : decodeByte b = .nopDefault b := by
  obtain ⟨hrow, hhex⟩ := (isDefaultByte_iff b).1 h
  rw [decodeByte, hrow]
  exact if_neg (ne_true_of_eq_false hhex)

/-- 30_encoding.md R50: a byte decodes by a row of the opcode table, by a row of the literals, or, when it is one of the
210, to its default no-op. -/
theorem decodeByte_cases (b : Byte) :
    (b, decodeByte b) ∈ opcodeRows ∨ (b, decodeByte b) ∈ hexRows ∨
      isDefaultByte b = true ∧ decodeByte b = .nopDefault b := by
  cases hrow : opcodeRows.lookup b with
  | some i =>
    obtain ⟨l, r, hsplit, -⟩ := List.lookup_eq_some_iff.1 hrow
    exact .inl (by simp [decodeByte_of_lookup hrow, hsplit])
  | none =>
    cases hhex : isHex b with
    | true => exact .inr (.inl (decodeByte_of_isHex hrow hhex ▸ hexPush_mem_hexRows b hhex))
    | false =>
      have hdef : isDefaultByte b = true := (isDefaultByte_iff b).2 ⟨hrow, hhex⟩
      exact .inr (.inr ⟨hdef, decodeByte_of_isDefaultByte hdef⟩)

theorem wellFormed_of_mem_rows : ∀ p ∈ opcodeRows ++ hexRows, p.2.wellFormed = true := by
  decide

/-- 30_encoding.md R53: no byte decodes to an instruction that is not the block's. -/
theorem decodeByte_wellFormed (b : Byte) : (decodeByte b).wellFormed = true := by
  rcases decodeByte_cases b with h | h | ⟨hdef, hdec⟩
  · exact wellFormed_of_mem_rows _ (List.mem_append_left _ h)
  · exact wellFormed_of_mem_rows _ (List.mem_append_right _ h)
  · rw [hdec]
    exact hdef

theorem decodeByte_of_mem_hexRows : ∀ p ∈ hexRows, decodeByte p.1 = p.2 := by
  decide

/-! ### The default no-op -/

/-- 40_dispatch.md R64: a handler that does nothing leaves the tail advance and ERR = NONE. -/
theorem complete_id (s : State) : complete (fun t => t) s = .next s.endsHere := by
  rw [complete_eq, moveIp_of_no_err (clearErr_err s)]
  rfl

theorem exec_nopDefault_eq (b : Byte) (s : State) : exec (.nopDefault b) s = .next s.endsHere := by
  rw [exec_nopDefault, complete_id]

/-- Settles O12: the default bytes decode to their no-op, which does nothing; every byte decodes. -/
theorem defaultBytesAreNoOps : Obligations.DefaultBytesAreNoOps :=
  ⟨fun _ => decodeByte_of_isDefaultByte, exec_nopDefault_eq, fun b => ⟨decodeByte b, decodeByte_wellFormed b, rfl⟩⟩

/-! ### The hex literals -/

/-- 40_dispatch.md R63: the instruction of each row pushes the value of the row's own byte. -/
theorem exec_of_mem_hexRows : ∀ p ∈ hexRows, ∀ s, exec p.2 s = complete (pushLiteral p.1) s := by
  simp only [hexRows, List.forall_mem_append, List.forall_mem_cons, List.not_mem_nil, false_imp_iff, implies_true,
    and_true]
  exact ⟨⟨exec_pushHex0, exec_pushHex1, exec_pushHex2, exec_pushHex3, exec_pushHex4, exec_pushHex5, exec_pushHex6,
    exec_pushHex7⟩, exec_pushHex8, exec_pushHex9, exec_pushHexA, exec_pushHexB, exec_pushHexC, exec_pushHexD,
    exec_pushHexE, exec_pushHexF⟩

theorem complete_pushLiteral_of_lt {s : State} (h : s.stack.length < 512) (b : Byte) :
    complete (pushLiteral b) s = .next (State.endsHere { s with stack := hexDecode b :: s.stack }) := by
  rw [complete_eq, pushLiteral, moveIp_push_of_lt (u := clearErr s) h rfl]
  rfl

/-- 60_exceptions.md R99: the value is lost and the step goes on. -/
theorem complete_pushLiteral_of_full {s : State} (h : s.stack.length = 512) (b : Byte) :
    complete (pushLiteral b) s = .next s.endsHere.overflowed := by
  rw [complete_eq, pushLiteral, moveIp_push_of_full (u := clearErr s) h.ge]
  rfl

/-- Settles O40: the sixteen triples are the rows of the literals, each with the value of its byte. -/
theorem hexLiteralsPushTheirValue : Obligations.HexLiteralsPushTheirValue := by
  intro b i v htriple
  have hrow : (b, i, v) ∈ hexRows.map fun p => (p.1, p.2, hexDecode p.1) := htriple
  obtain ⟨p, hp, rfl, rfl, rfl⟩ : ∃ p ∈ hexRows, p.1 = b ∧ p.2 = i ∧ hexDecode p.1 = v := by simpa using hrow
  refine ⟨decodeByte_of_mem_hexRows p hp, rfl, fun s => ?_⟩
  rw [exec_of_mem_hexRows p hp]
  exact ⟨fun h => complete_pushLiteral_of_lt h p.1, fun h => complete_pushLiteral_of_full h p.1⟩

end Sys2Proof.Machine
end

section
/-! Movement: the direction instructions. -/

namespace Sys2Proof.Machine

/-- 41_movement.md R66 to R69: a handler that only turns DIR leaves the advance in the new direction and ERR = NONE. -/
theorem complete_withDir (s : State) (d : Dir) :
    complete (fun t => t.withDir d) s = .next (s.endsAt s.ipX s.ipY d) := by
  rw [complete_eq, moveIp_of_no_err (u := (clearErr s).withDir d) rfl]
  rfl

/-- Settles O16: each byte has its row in the opcode table, and each handler is one turn of DIR. -/
theorem directionInstructionsTurnAndMove : Obligations.DirectionInstructionsTurnAndMove :=
  ⟨⟨decodeByte_of_lookup rfl, decodeByte_of_lookup rfl, decodeByte_of_lookup rfl, decodeByte_of_lookup rfl⟩,
    fun s => ⟨(exec_goEast s).trans (complete_withDir s .east), (exec_goWest s).trans (complete_withDir s .west),
      (exec_goSouth s).trans (complete_withDir s .south), (exec_goNorth s).trans (complete_withDir s .north)⟩⟩

end Sys2Proof.Machine
end

section
/-! Arithmetic: the operations that replace the top two bytes by one. -/

namespace Sys2Proof.Machine

/-- 42_arithmetic.md: on a stack within R11's bound the two pops leave room for the result, so its push cannot fail. -/
theorem complete_binaryOp_of_le {s : State} (h : s.stack.length ≤ 512) (f : Byte → Byte → Byte) :
    complete (binaryOp f) s =
      .next (State.endsHere { s with stack := f (s.popped 0) (s.popped 1) :: s.stack.drop 2 }) := by
  have hroom : (s.stack.drop 2).length < 512 := by
    rw [List.length_drop]
    omega
  rw [complete_eq, binaryOp_eq, moveIp_push_of_lt (u := (clearErr s).withStack ((clearErr s).stack.drop 2)) hroom rfl]
  rfl

/-- Settles O19: each byte has its row in the opcode table, and the truncated integer result is the one modulo 256. -/
theorem addSubMulReplaceTopTwo : Obligations.AddSubMulReplaceTopTwo := by
  refine ⟨⟨decodeByte_of_lookup rfl, decodeByte_of_lookup rfl, decodeByte_of_lookup rfl⟩, fun s h => ⟨?_, ?_, ?_⟩⟩
  · rw [exec_add, complete_binaryOp_of_le h, trunc8_add]
  · rw [exec_sub, complete_binaryOp_of_le h, trunc8_sub]
  · rw [exec_mul, complete_binaryOp_of_le h, trunc8_mul]

end Sys2Proof.Machine
end

section
/-! Logic: the truth values, the branches on a popped byte, and the swap. -/

namespace Sys2Proof.Machine

/-- 43_logic.md R77: the one pop leaves room for the result, so its push cannot fail. -/
theorem complete_unaryOp_of_le {s : State} (h : s.stack.length ≤ 512) (f : Byte → Byte) :
    complete (unaryOp f) s = .next (State.endsHere { s with stack := f (s.popped 0) :: s.stack.drop 1 }) := by
  have hroom : (s.stack.drop 1).length < 512 := by
    rw [List.length_drop]
    omega
  rw [complete_eq, unaryOp_eq, moveIp_push_of_lt (u := (clearErr s).withStack ((clearErr s).stack.drop 1)) hroom rfl]
  rfl

/-- Settles O22: each byte has its row in the opcode table, and each result replaces the operands it is computed from. -/
theorem notAndGreaterPushTruth : Obligations.NotAndGreaterPushTruth := by
  refine ⟨⟨decodeByte_of_lookup rfl, decodeByte_of_lookup rfl⟩, fun s h => ⟨?_, ?_⟩⟩
  · rw [exec_not, complete_unaryOp_of_le h]
  · rw [exec_greater, complete_binaryOp_of_le h]

/-- 43_logic.md R79, R80: the advance takes the direction the popped byte chose; nothing is pushed, so every stack will
do. -/
theorem complete_branchOp (zero other : Dir) (s : State) :
    complete (branchOp zero other) s = .next (({ s with stack := s.stack.drop 1 } : State).endsAt s.ipX s.ipY
      (if s.popped 0 = 0 then zero else other)) := by
  rw [complete_eq, branchOp_eq, moveIp_of_no_err (by simp)]
  rfl

/-- Settles O23: each byte has its row in the opcode table, and the direction is the branch the popped byte selects. -/
theorem branchesFollowPoppedByte : Obligations.BranchesFollowPoppedByte := by
  refine ⟨⟨decodeByte_of_lookup rfl, decodeByte_of_lookup rfl⟩, fun s => ?_⟩
  rw [exec_ifVertical, exec_ifHorizontal, complete_branchOp, complete_branchOp]
  refine ⟨fun hzero => ?_, fun hother => ?_⟩
  · simp only [if_pos hzero, and_self]
  · simp only [if_neg hother, and_self]

/-- 43_logic.md R81: the two pops leave room for both pushes. -/
theorem exec_swap_of_le {s : State} (h : s.stack.length ≤ 512) :
    exec .swap s = .next (State.endsHere { s with stack := s.popped 1 :: s.popped 0 :: s.stack.drop 2 }) := by
  have hroom : (s.stack.drop 2).length + 1 < 512 := by
    rw [List.length_drop]
    omega
  have hfirst : push (s.popped 0) ((clearErr s).withStack (s.stack.drop 2)) =
      (clearErr s).withStack (s.popped 0 :: s.stack.drop 2) := push_of_lt (Nat.lt_of_succ_lt hroom) _
  rw [exec_swap, complete_eq, pop2_eq]
  simp only [popped_clearErr, clearErr_stack, hfirst]
  rw [moveIp_push_of_lt (u := (clearErr s).withStack (s.popped 0 :: s.stack.drop 2)) hroom rfl]
  rfl

/-- Settles O24: the byte has its row in the opcode table, and the swap is `exec_swap_of_le`. -/
theorem swapExchangesTopTwo : Obligations.SwapExchangesTopTwo :=
  ⟨decodeByte_of_lookup rfl, fun _ => exec_swap_of_le⟩

end Sys2Proof.Machine
end

section
/-! The stack: the drop of the top byte. -/

namespace Sys2Proof.Machine

/-- 44_stack.md R83: nothing is pushed, so the step ends without an overflow on every stack, the empty one included. -/
theorem exec_drop_eq (s : State) : exec .drop s = .next (State.endsHere { s with stack := s.stack.drop 1 }) := by
  have hpop : (pop (clearErr s)).2 = (clearErr s).withStack (s.stack.drop 1) := by
    rw [pop_eq, clearErr_stack]
  rw [exec_drop, complete_eq, hpop, moveIp_of_no_err (by simp)]
  rfl

/-- Settles O26: the byte has its row in the opcode table, and the handler is one pop. -/
theorem dropRemovesTop : Obligations.DropRemovesTop :=
  ⟨decodeByte_of_lookup rfl, exec_drop_eq⟩

end Sys2Proof.Machine
end

section
/-! Memory and flow: the loads, the stores, the skip and the jump. -/

namespace Sys2Proof.Machine

/-! ### Loads -/

/-- 45_memory_flow.md R84, R85: the two pops leave room for the byte read, so its push cannot fail. -/
theorem complete_loadOp_of_le {s : State} (h : s.stack.length ≤ 512) (f : Byte → Byte) :
    complete (loadOp f) s = .next (State.endsHere { s with
      stack := f (memRead s (gridAddr (s.popped 0).toNat (s.popped 1).toNat)) :: s.stack.drop 2 }) := by
  have hroom : (s.stack.drop 2).length < 512 := by
    rw [List.length_drop]
    omega
  rw [complete_eq, loadOp_eq, moveIp_push_of_lt (u := (clearErr s).withStack ((clearErr s).stack.drop 2)) hroom rfl]
  rfl

/-- Settles O27: each byte has its row in the opcode table, and the two loads differ in what they make of the byte. -/
theorem getPushesCell : Obligations.GetPushesCell := by
  refine ⟨⟨decodeByte_of_lookup rfl, decodeByte_of_lookup rfl⟩, fun s h => ⟨?_, ?_⟩⟩
  · rw [exec_get, complete_loadOp_of_le h]
  · rw [exec_getHex, complete_loadOp_of_le h]

/-! ### Stores -/

/-- 45_memory_flow.md R86, R87: but for the grid, a store is three pops and the tail advance. -/
theorem complete_storeOp_frame {f : Byte → Byte} {s t : State} (h : complete (storeOp f) s = .next t) :
    { t with grid := s.grid } = State.endsHere { s with stack := s.stack.drop 3 } := by
  rw [complete_eq, storeOp_eq, moveIp_of_no_err rfl] at h
  cases h
  rfl

/-- 45_memory_flow.md R86, R87: a store to cell (x, y) answers a next state; what it writes is
`memRead_complete_storeOp` at that cell and at every other one. -/
theorem complete_storeOp_writes (f : Byte → Byte) (s : State) {a : Fin 32768}
    (ha : gridAddr (s.popped 0).toNat (s.popped 1).toNat = a) :
    ∃ t, complete (storeOp f) s = .next t ∧ memRead t a = f (s.popped 2) ∧ (∀ b, b ≠ a → memRead t b = memRead s b) ∧
      { t with grid := s.grid } = State.endsHere { s with stack := s.stack.drop 3 } := by
  subst ha
  obtain ⟨t, ht⟩ : ∃ t, complete (storeOp f) s = .next t := ⟨_, complete_eq _ s⟩
  have hread := memRead_complete_storeOp ht
  exact ⟨t, ht, (hread _).trans (if_pos rfl), fun b hb => (hread b).trans (if_neg hb), complete_storeOp_frame ht⟩

/-- Settles O28: each byte has its row in the opcode table, and the two stores differ in what they make of the byte. -/
theorem putWritesOneCell : Obligations.PutWritesOneCell := by
  refine ⟨⟨decodeByte_of_lookup rfl, decodeByte_of_lookup rfl⟩, fun s a ha => ⟨?_, ?_⟩⟩
  · rw [exec_put]
    exact complete_storeOp_writes (fun v => v) s ha
  · rw [exec_putHex]
    exact complete_storeOp_writes hexDecode s ha

/-! ### Skip and jump -/

/-- 45_memory_flow.md R88: the pre-advance keeps ERR = NONE, and the tail advance starts from the cell it reached. -/
theorem exec_skip_eq (s : State) :
    exec .skip s = .next (s.endsAt (advance s.ipX s.ipY s.dir).1 (advance s.ipX s.ipY s.dir).2 s.dir) := by
  rw [exec_skip, complete_eq, moveIp_of_no_err (u := moveIp (clearErr s)) rfl]
  rfl

/-- Settles O30: the byte has its row in the opcode table, and the two advances are `exec_skip_eq`. -/
theorem skipMovesTwoCells : Obligations.SkipMovesTwoCells :=
  ⟨decodeByte_of_lookup rfl, exec_skip_eq⟩

/-- 45_memory_flow.md R90: nothing is pushed, so the step ends without an overflow on every stack; the tail advance
starts from the popped coordinate. -/
theorem exec_jump_eq (s : State) :
    exec .jump s = .next (({ s with stack := s.stack.drop 2 } : State).endsAt (s.popped 0) (s.popped 1) s.dir) := by
  rw [exec_jump, complete_eq, pop2_eq, moveIp_of_no_err (by simp)]
  rfl

/-- Settles O32: the byte has its row in the opcode table, and the jump is `exec_jump_eq`. -/
theorem jumpSetsIpThenAdvances : Obligations.JumpSetsIpThenAdvances :=
  ⟨decodeByte_of_lookup rfl, exec_jump_eq⟩

end Sys2Proof.Machine
end

section
/-! Drawing: the pixel, the sprite and the clear. -/

namespace Sys2Proof.Machine

/-- 46_drawing.md: a handler that leaves the stack `l`, the frame `f` and REDRAW set answers a next state with that frame;
but for the frame, nothing else changed save the tail advance and ERR = NONE. -/
theorem complete_drawing {handler : State → State} {s : State} {l : List Byte} {f : Frame}
    (h : handler (clearErr s) = raiseRedraw (((clearErr s).withStack l).withFb f)) :
    ∃ t, complete handler s = .next t ∧ t.fb = f ∧
      { t with fb := s.fb } = State.endsHere { s with stack := l, redraw := true } := by
  refine ⟨_, complete_eq handler s, ?_⟩
  rw [h, moveIp_of_no_err (by simp)]
  exact ⟨rfl, rfl⟩

/-- 46_drawing.md R92: the frame is that of one write to the popped coordinate. -/
theorem exec_pixel_draws (s : State) : ∃ t, exec .pixel s = .next t ∧
    t.fb = (fbWrite s (s.popped 0).toNat (s.popped 1).toNat 1).fb ∧
    { t with fb := s.fb } = State.endsHere { s with stack := s.stack.drop 2, redraw := true } := by
  rw [exec_pixel]
  refine complete_drawing ?_
  rw [pop2_eq]
  rfl

/-- Settles O34: the byte has its row in the opcode table, and the frame is read as after one `fbWrite`. -/
theorem pixelLightsOneCell : Obligations.PixelLightsOneCell := by
  refine ⟨decodeByte_of_lookup rfl, fun s => ?_⟩
  obtain ⟨t, hexec, hfb, hframe⟩ := exec_pixel_draws s
  exact ⟨t, hexec, fun a => (fbRead_congr hfb a).trans (fbRead_fbWrite s _ _ 1 a), hframe⟩

/-- 46_drawing.md R94: the frame is that of one blit; the lines come from the grid, which neither the pops nor the start
of the step write. -/
theorem exec_sprite_draws (s : State) : ∃ t, exec .sprite s = .next t ∧
    t.fb = (drawSprite (s.popped 0) (s.popped 1) (s.popped 2) (s.popped 3) s).fb ∧
    { t with fb := s.fb } = State.endsHere { s with stack := s.stack.drop 4, redraw := true } := by
  rw [exec_sprite]
  refine complete_drawing ?_
  rw [pop4_eq]
  rfl

/-- Settles O36: the byte has its row in the opcode table, and `fbRead_drawSprite` says what each cell reads inside the
sprite and outside it. -/
theorem spriteOverwritesSixtyFourCells : Obligations.SpriteOverwritesSixtyFourCells := by
  refine ⟨decodeByte_of_lookup rfl, ?_⟩
  rintro s _ _ _ _ rfl rfl rfl rfl
  obtain ⟨t, hexec, hfb, hframe⟩ := exec_sprite_draws s
  have hcell := fbRead_drawSprite (s.popped 0) (s.popped 1) (s.popped 2) (s.popped 3) s
  refine ⟨t, hexec, fun k i hk hi => ?_, fun a hout => ?_, hframe⟩
  · exact (fbRead_congr hfb _).trans ((hcell _).1 k hk i hi rfl)
  · exact (fbRead_congr hfb a).trans ((hcell a).2 fun k hk i hi => hout k i hk hi)

/-- 46_drawing.md R95: the frame is the dark one; nothing is popped. -/
theorem exec_clear_draws (s : State) : ∃ t, exec .clear s = .next t ∧ t.fb = (fbClear s).fb ∧
    { t with fb := s.fb } = State.endsHere { s with redraw := true } := by
  rw [exec_clear]
  exact complete_drawing rfl

/-- Settles O37: the byte has its row in the opcode table, and the frame is read as after one `fbClear`. -/
theorem clearDarkensEveryCell : Obligations.ClearDarkensEveryCell := by
  refine ⟨decodeByte_of_lookup rfl, fun s => ?_⟩
  obtain ⟨t, hexec, hfb, hframe⟩ := exec_clear_draws s
  exact ⟨t, hexec, fun a => (fbRead_congr hfb a).trans (fbRead_fbClear s a), hframe⟩

end Sys2Proof.Machine
end

section
/-! Control: the space. -/

namespace Sys2Proof.Machine

/-- 47_control.md R96: nothing runs before the tail advance. -/
theorem exec_nopSpace_eq (s : State) : exec .nopSpace s = .next s.endsHere := by
  rw [exec_nopSpace, complete_id]

/-- Settles O38: the byte has its row in the opcode table, and a default no-op answers the same advanced state (R64). -/
theorem spaceOnlyAdvances : Obligations.SpaceOnlyAdvances :=
  ⟨decodeByte_of_lookup rfl, fun s =>
    ⟨exec_nopSpace_eq s, fun b => (exec_nopSpace_eq s).trans (exec_nopDefault_eq b s).symm⟩⟩

end Sys2Proof.Machine
end

section
/-! Encoding: the decoder and the encoder are inverse; the hex decoder by byte range. -/

namespace Sys2Proof.Machine

/-- 30_encoding.md R51: in every row the instruction's byte is the row's byte. -/
theorem encode_of_mem_rows : ∀ p ∈ opcodeRows ++ hexRows, encode p.2 = p.1 := by
  decide

theorem encode_decodeByte (b : Byte) : encode (decodeByte b) = b := by
  rcases decodeByte_cases b with h | h | ⟨-, hdec⟩
  · exact encode_of_mem_rows _ (List.mem_append_left _ h)
  · exact encode_of_mem_rows _ (List.mem_append_right _ h)
  · rw [hdec]
    rfl

/-- Only the default no-op carries data, and its byte is one of the 210; every other instruction is found by looking its
one byte up in the tables. -/
theorem decodeByte_encode {i : Instr} (h : i.wellFormed = true) : decodeByte (encode i) = i := by
  cases i
  case nopDefault b => exact decodeByte_of_isDefaultByte h
  all_goals rfl

/-- Settles O9: the two inverse laws, and `decode` takes one byte by definition. -/
theorem decodeAndEncodeAgree : Obligations.DecodeAndEncodeAgree :=
  ⟨fun _ => decodeByte_encode, fun b => ⟨decodeByte_wellFormed b, encode_decodeByte b⟩, fun _ _ => rfl⟩

/-- Settles O10: eight bytes have their row in the opcode table, 0x66 one in that of the literals, 0x3B is a default
byte. -/
theorem specBytesDecode : Obligations.SpecBytesDecode :=
  ⟨decodeByte_of_lookup rfl, decodeByte_of_lookup rfl, decodeByte_of_lookup rfl, decodeByte_of_lookup rfl,
    decodeByte_of_lookup rfl, decodeByte_of_lookup rfl, decodeByte_of_lookup rfl,
    decodeByte_of_mem_hexRows (0x66, .pushHexF) (by decide), decodeByte_of_isDefaultByte (by decide)⟩

/-! ### The hex decoder -/

theorem toNat_hexDecode_digit {b : Byte} (h : 0x30 ≤ b.toNat) (h' : b.toNat ≤ 0x39) :
    (hexDecode b).toNat = b.toNat - 0x30 := by
  rw [hexDecode, if_pos ⟨h, h'⟩]
  bv_omega

theorem toNat_hexDecode_letter {b : Byte} (h : 0x61 ≤ b.toNat) (h' : b.toNat ≤ 0x66) :
    (hexDecode b).toNat = b.toNat - 0x61 + 10 := by
  rw [hexDecode, if_neg (by omega), if_pos ⟨h, h'⟩]
  bv_omega

theorem isHex_iff (b : Byte) :
    isHex b = true ↔ (0x30 ≤ b.toNat ∧ b.toNat ≤ 0x39) ∨ (0x61 ≤ b.toNat ∧ b.toNat ≤ 0x66) := by
  rw [isHex, Bool.or_eq_true, decide_eq_true_iff, decide_eq_true_iff]

theorem hexDecode_of_not_isHex {b : Byte} (h : ¬ isHex b = true) : hexDecode b = 0xFF := by
  rw [isHex_iff, not_or] at h
  rw [hexDecode, if_neg h.1, if_neg h.2]

/-- 40_dispatch.md R61: a hex digit's value is a nibble. -/
theorem toNat_hexDecode_lt {b : Byte} (h : isHex b = true) : (hexDecode b).toNat < 16 := by
  rcases (isHex_iff b).1 h with ⟨hlo, hhi⟩ | ⟨hlo, hhi⟩
  · rw [toNat_hexDecode_digit hlo hhi]
    omega
  · rw [toNat_hexDecode_letter hlo hhi]
    omega

/-- 40_dispatch.md R62: 0xFF is no nibble, so it marks exactly the bytes that are no hex digit. -/
theorem isHex_iff_hexDecode (b : Byte) : isHex b = true ↔ hexDecode b ≠ 0xFF := by
  refine ⟨fun h hff => ?_, fun h => not_not.1 fun hn => h (hexDecode_of_not_isHex hn)⟩
  have hlt := toNat_hexDecode_lt h
  rw [hff] at hlt
  exact absurd hlt (by decide)

/-- Settles O11: each range has its lemma, and the bytes outside them are no hex digits. -/
theorem hexDecodeByRange : Obligations.HexDecodeByRange := by
  refine fun b => ⟨toNat_hexDecode_digit, toNat_hexDecode_letter, fun h => ?_, isHex_iff_hexDecode b⟩
  refine hexDecode_of_not_isHex ?_
  rw [isHex_iff]
  omega

end Sys2Proof.Machine
end

section
/-! The step: what an enabled block runs, and that a stopped one runs nothing. -/

namespace Sys2Proof.Machine

theorem step_of_enabled {s : State} (hf : s.fault = false) (hs : s.shutdown = false) :
    step s = exec (decodeByte (byteAtIp s)) s := by
  simp [step, whenEnabled, hf, hs]

theorem step_of_fault {s : State} (hf : s.fault = true) : step s = .fault .stopped := by
  simp [step, whenEnabled, hf]

theorem step_of_shutdown {s : State} (hf : s.fault = false) (hs : s.shutdown = true) : step s = .refused .shutDown := by
  simp [step, whenEnabled, hf, hs]

theorem step_next_of_enabled {s : State} (hf : s.fault = false) (hs : s.shutdown = false) : ∃ t, step s = .next t :=
  step_of_enabled hf hs ▸ exec_next s _

/-- 40_dispatch.md R57: what a stopped block answers is one of its two reasons to stop; an enabled one always steps. -/
theorem step_cases (s : State) :
    (s.fault = true ∧ step s = .fault .stopped) ∨
      (s.fault = false ∧ s.shutdown = true ∧ step s = .refused .shutDown) ∨
      (s.fault = false ∧ s.shutdown = false ∧ ∃ t, step s = .next t) := by
  cases hf : s.fault
  · cases hs : s.shutdown
    · exact .inr (.inr ⟨rfl, rfl, step_next_of_enabled hf hs⟩)
    · exact .inr (.inl ⟨rfl, rfl, step_of_shutdown hf hs⟩)
  · exact .inl ⟨rfl, step_of_fault hf⟩

theorem hostStep_of_next {s t : State} (h : step s = .next t) : hostStep s = t := by
  rw [hostStep, h]

/-- 40_dispatch.md R57: "ignores STEP". -/
theorem hostStep_of_stopped {s : State} (h : s.fault = true ∨ s.shutdown = true) : hostStep s = s := by
  rcases step_cases s with ⟨-, e⟩ | ⟨-, -, e⟩ | ⟨hf, hs, -⟩
  · rw [hostStep, e]
  · rw [hostStep, e]
  · simp [hf, hs] at h

/-- Settles O13: an enabled step is `exec` of the decoded byte. -/
theorem stepRunsDecodedInstruction : Obligations.StepRunsDecodedInstruction := by
  rintro s _ hf hs rfl
  exact step_of_enabled hf hs

/-- Settles O14: the three ends of a step. -/
theorem stoppedBlockTakesNoStep : Obligations.StoppedBlockTakesNoStep := by
  refine fun s => ⟨fun hf => ⟨step_of_fault hf, hostStep_of_stopped (.inl hf)⟩, fun hfin => ?_, fun hf hfin => ?_⟩
  · obtain ⟨hs, hf⟩ : s.shutdown = true ∧ s.fault = false := by simpa [State.isFinal] using hfin
    exact ⟨step_of_shutdown hf hs, hostStep_of_stopped (.inr hs)⟩
  · replace hf : s.fault = false := hf
    have hs : s.shutdown = false := by simpa [State.isFinal, hf] using hfin
    obtain ⟨t, ht⟩ := step_next_of_enabled hf hs
    rw [hostStep_of_next ht, ht]

end Sys2Proof.Machine
end

section
/-! The stack primitives: Push with room and on a full stack. -/

namespace Sys2Proof.Machine

/-- Settles O2: the two cases of Push, by whether there is room. -/
theorem pushStoresOrReportsOverflow : Obligations.PushStoresOrReportsOverflow :=
  fun _ v => ⟨fun h => push_of_lt h v, fun h => push_of_full h.ge v⟩

end Sys2Proof.Machine
end

section
/-! Addresses and the host's view: the grid address of bit vectors, and the framebuffer by index. -/

namespace Sys2Proof.Machine

/-- Two's complement of at least `k` bits agrees with the unsigned reading modulo `2 ^ k`. -/
theorem toInt_emod_two_pow {w k : Nat} (h : k ≤ w) (x : BitVec w) :
    x.toInt % ((2 ^ k : Nat) : Int) = (x.setWidth k).toNat := by
  have hdvd : ((2 ^ k : Nat) : Int) ∣ ((2 ^ w : Nat) : Int) := Int.natCast_dvd_natCast.2 (pow_dvd_pow 2 h)
  rw [BitVec.toInt_eq_toNat_bmod, ← Int.emod_emod_of_dvd _ hdvd, Int.bmod_emod, Int.emod_emod_of_dvd _ hdvd,
    BitVec.toNat_setWidth, Int.natCast_emod]

/-- Settles O4: the two remainders of R29 are the two slices, and the sum does not carry. -/
theorem gridAddressSlicesBits : Obligations.GridAddressSlicesBits := by
  intro w x y hw
  have hx : x.toInt % 256 = (x.setWidth 8).toNat := toInt_emod_two_pow hw x
  have hy : y.toInt % 128 = (y.setWidth 7).toNat := toInt_emod_two_pow (Nat.le_of_succ_le hw) y
  have hval := gridAddr_val x.toInt y.toInt
  rw [BitVec.toNat_append, ← Nat.shiftLeft_add_eq_or_of_lt (x.setWidth 8).isLt, Nat.shiftLeft_eq]
  rw [hx, hy] at hval
  omega

theorem fbReadView_of_lt {i : BitVec 12} (h : i.toNat < 4032) (s : State) :
    fbReadView i s = some (BitVec.ofNat 8 (fbRead s ⟨i.toNat, h⟩).toNat) := dif_pos h

theorem fbReadView_of_ge {i : BitVec 12} (h : 4032 ≤ i.toNat) (s : State) : fbReadView i s = none :=
  dif_neg (Nat.not_lt.2 h)

/-- 00_scope.md R4: a framebuffer cell as a byte. -/
theorem ofNat_bit_cases : ∀ b : Bit, (BitVec.ofNat 8 b.toNat : Byte) = 0 ∨ (BitVec.ofNat 8 b.toNat : Byte) = 1 := by
  decide

/-- Settles O8: in the view the index is the framebuffer's address, outside it there is nothing. -/
theorem framebufferViewIsRowMajor : Obligations.FramebufferViewIsRowMajor := by
  refine ⟨fun s x y hx hy => ?_, fun s i => ⟨fun h => fbReadView_of_ge h s, fun h => ?_⟩⟩
  · have hidx : (BitVec.ofNat 12 (y * 84 + x)).toNat = y * 84 + x := by
      rw [BitVec.toNat_ofNat]
      omega
    have haddr : (⟨(BitVec.ofNat 12 (y * 84 + x)).toNat, by omega⟩ : Fin 4032) = fbAddr x y := by
      have hval := fbAddr_val x y
      rw [Fin.ext_iff]
      dsimp only
      omega
    rw [fbReadView_of_lt (by omega), haddr]
  · simpa only [fbReadView_of_lt h, Option.some.injEq] using ofNat_bit_cases _

end Sys2Proof.Machine
end

section
/-! Single instructions: the division, the duplicate, the quote, the label, the random turn and the halt. -/

namespace Sys2Proof.Machine

/-! ### Division -/

theorem divideOp_of_zero {s : State} (h : s.popped 1 = 0) (f : Byte → Byte → Byte) :
    divideOp f s = .next (markDivByZero s) := by
  rcases divideOp_cases f s with ⟨-, e⟩ | ⟨h', -⟩
  · exact e
  · exact absurd h h'

theorem divideOp_of_ne_zero {s : State} (h : s.popped 1 ≠ 0) (f : Byte → Byte → Byte) :
    divideOp f s = complete (binaryOp f) s := by
  rcases divideOp_cases f s with ⟨h', -⟩ | ⟨-, e⟩
  · exact absurd h' h
  · exact e

/-- Settles O20: without the trap both are binary operations, and a truncated natural number is its `ofNat`. -/
theorem divModReplaceTopTwo : Obligations.DivModReplaceTopTwo := by
  refine fun s hlen hdiv => ⟨?_, ?_⟩
  · rw [exec_div, divideOp_of_ne_zero hdiv, complete_binaryOp_of_le hlen, trunc8_natCast]
  · rw [exec_mod, divideOp_of_ne_zero hdiv, complete_binaryOp_of_le hlen, trunc8_natCast]

/-- 10_state.md R13: below the bottom of the stack a pop reads 0. -/
theorem popped_of_length_le {s : State} {n : Nat} (h : s.stack.length ≤ n) : s.popped n = 0 := by
  rw [State.popped, List.getD_eq_default _ _ h]

/-- Settles O21: the trap of `divideOp`, and the second byte of a stack that has none. -/
theorem zeroDivisorTrapsPrecisely : Obligations.ZeroDivisorTrapsPrecisely :=
  ⟨fun s h => ⟨(exec_div s).trans (divideOp_of_zero h _), (exec_mod s).trans (divideOp_of_zero h _)⟩,
    fun _ h => popped_of_length_le (Nat.le_of_lt_succ h)⟩

/-! ### Duplicate and quote -/

theorem exec_dup_eq (s : State) : exec .dup s = .next (moveIp (push (s.popped 0) (clearErr s))) := by
  rw [exec_dup, complete_eq, peek_eq, popped_clearErr]

/-- Settles O25: one push on the stack as it stands. -/
theorem dupPushesTop : Obligations.DupPushesTop := by
  refine fun s => ⟨fun h => ?_, fun h => ?_⟩
  · rw [exec_dup_eq, moveIp_push_of_lt (u := clearErr s) h rfl]
    rfl
  · rw [exec_dup_eq, moveIp_push_of_full (u := clearErr s) h.ge]
    rfl

/-- 45_memory_flow.md R89: the byte read and the push both come after the pre-advance. -/
theorem exec_quote_eq (s : State) :
    exec .quote s = .next (moveIp (push
      (memRead s (gridAddr (advance s.ipX s.ipY s.dir).1.toNat (advance s.ipX s.ipY s.dir).2.toNat))
      (moveIp (clearErr s)))) := rfl

/-- Settles O31: one push in the cell the pre-advance reached; the tail advance starts there, DIR being unchanged. -/
theorem quotePushesNextCell : Obligations.QuotePushesNextCell := by
  intro s x y hadv
  obtain rfl : (advance s.ipX s.ipY s.dir).1 = x := congrArg Prod.fst hadv
  obtain rfl : (advance s.ipX s.ipY s.dir).2 = y := congrArg Prod.snd hadv
  refine ⟨fun h => ?_, fun h => ?_⟩
  · rw [exec_quote_eq, moveIp_push_of_lt (u := moveIp (clearErr s)) h rfl]
    rfl
  · rw [exec_quote_eq, moveIp_push_of_full (u := moveIp (clearErr s)) h.ge]
    rfl

/-! ### Label -/

/-- 45_memory_flow.md R91: the key is popped, and a known one's two coordinates are pushed. -/
theorem exec_label_eq (s : State) : exec .label s = .next (moveIp
    (if (labelOf s (s.popped 0)).valid then
      pushLabel (labelOf s (s.popped 0)) ((clearErr s).withStack (s.stack.drop 1))
    else (clearErr s).withStack (s.stack.drop 1))) := by
  rw [exec_label, complete_eq, pop_eq]
  rfl

theorem exec_label_of_unknown {s : State} (h : (labelOf s (s.popped 0)).valid = false) :
    exec .label s = .next (State.endsHere { s with stack := s.stack.drop 1 }) := by
  rw [exec_label_eq, if_neg (ne_true_of_eq_false h), moveIp_of_no_err (by simp)]
  rfl

/-- The pop leaves room for the first push, whatever the stack held. -/
theorem exec_label_of_known {s : State} (h : (labelOf s (s.popped 0)).valid = true) (hlen : s.stack.length ≤ 512) :
    exec .label s = .next (moveIp (push (BitVec.ofNat 8 ((labelOf s (s.popped 0)).x.toNat + 1))
      ((clearErr s).withStack (BitVec.ofNat 8 (labelOf s (s.popped 0)).y.toNat :: s.stack.drop 1)))) := by
  have hroom : ((clearErr s).withStack (s.stack.drop 1)).stack.length < 512 := by
    rw [State.withStack_stack, List.length_drop]
    omega
  have hx : trunc8 (((labelOf s (s.popped 0)).x.toNat : Int) + 1) =
      BitVec.ofNat 8 ((labelOf s (s.popped 0)).x.toNat + 1) := trunc8_natCast _
  rw [exec_label_eq, if_pos h, pushLabel, push_of_lt hroom, hx]
  rfl

/-- Settles O33: an unknown key; a known one whose two pushes fit; a known one on a full stack, where the pop makes room
for only the first. -/
theorem labelPushesCoordinate : Obligations.LabelPushesCoordinate := by
  rintro s _ rfl
  refine ⟨exec_label_of_unknown, fun h hlt => ?_, fun h hfull => ?_⟩
  · have hroom : (s.stack.drop 1).length + 1 < 512 := by
      rw [List.length_drop]
      omega
    rw [exec_label_of_known h hlt.le, moveIp_push_of_lt (by simpa using hroom) rfl]
    rfl
  · have hfull' : 512 ≤ (s.stack.drop 1).length + 1 := by
      rw [List.length_drop]
      omega
    rw [exec_label_of_known h hfull.le, moveIp_push_of_full (by simpa using hfull')]
    rfl

/-! ### Stores, seen by the next fetch -/

/-- Settles O29: the store's cell is the one fetched, and it reads what was stored. -/
theorem nextFetchSeesTheWrite : Obligations.NextFetchSeesTheWrite := by
  refine fun s t hip => ⟨fun h => ?_, fun h => ?_⟩
  · rw [exec_put] at h
    exact (memRead_complete_storeOp h _).trans (if_pos hip)
  · rw [exec_putHex] at h
    exact (memRead_complete_storeOp h _).trans (if_pos hip)

/-! ### Sprite lines -/

/-- 46_drawing.md R93: a low nibble beside the high one; the shift drops the high digit's upper bits. -/
theorem toNat_shiftLeft_four_or {lo : Byte} (h : lo.toNat < 16) (hi : Byte) :
    (hi <<< 4 ||| lo).toNat = hi.toNat % 16 * 16 + lo.toNat := by
  have hshift : hi.toNat <<< 4 % 2 ^ 8 = (hi.toNat % 16) <<< 4 := by
    rw [Nat.shiftLeft_eq, Nat.shiftLeft_eq]
    omega
  rw [BitVec.toNat_or, BitVec.toNat_shiftLeft, hshift, ← Nat.shiftLeft_add_eq_or_of_lt (by omega), Nat.shiftLeft_eq]

/-- Settles O35: 0xFF has every bit set; any other value of the hex decoder is a nibble. -/
theorem spriteLineFromHexCells : Obligations.SpriteLineFromHexCells := by
  rintro s x1 y1 k _ _ - rfl rfl
  refine ⟨fun hff => ?_, fun hne => ?_⟩
  · rw [spriteLine, hff]
    exact BitVec.or_allOnes
  · exact toNat_shiftLeft_four_or (toNat_hexDecode_lt ((isHex_iff_hexDecode _).2 hne)) _

/-! ### Random turn and halt -/

/-- 41_movement.md R70. -/
theorem exec_goRandom_eq (s : State) : exec .goRandom s =
    .next (({ s with draws := s.draws + 1 } : State).endsAt s.ipX s.ipY (dirOfCode (Config.rand2 s.draws))) := by
  rw [exec_goRandom, complete_eq, moveIp_of_no_err rfl]
  rfl

/-- Settles O17: the draw is the one of the state's counter. -/
theorem randomTurnsAsDrawn : Obligations.RandomTurnsAsDrawn :=
  ⟨fun s => ⟨_, rfl, exec_goRandom_eq s⟩, rfl, rfl, rfl, rfl⟩

/-- 47_control.md R97. -/
theorem exec_halt_eq (s : State) :
    exec .halt s = .next (({ s with shutdown := true } : State).endsAt 0 0 s.dir) := by
  rw [exec_halt, complete_eq, moveIp_of_no_err rfl]
  rfl

/-- Settles O39: the advance from the origin, in each direction. -/
theorem haltShutsDownPastOrigin : Obligations.HaltShutsDownPastOrigin := by
  refine fun s => ⟨_, exec_halt_eq s, rfl, ?_⟩
  simp only [State.endsAt]
  refine ⟨?_, ?_, ?_, ?_⟩ <;> rintro hd <;> rw [hd] <;> decide

end Sys2Proof.Machine
end

section
/-! The error reports: what each of the six ends of an instruction (Laws/Shape) leaves in ERR, OVF_SEEN and FAULT, and
on the stack. -/

namespace Sys2Proof.Machine

variable {i : Instr} {s t u : State}

/-! ### A push -/

theorem stackOverflow_of_push {v : Byte} (h : (push v u).err = .stackOverflow) :
    u.err = .stackOverflow ∨ 512 ≤ u.stack.length := by
  rcases push_cases v u with ⟨-, e⟩ | ⟨hfull, -⟩
  · rw [e] at h
    exact .inl h
  · exact .inr hfull

theorem length_push_le (v : Byte) (u : State) : (push v u).stack.length ≤ u.stack.length + 1 := by
  rcases push_cases v u with ⟨-, e⟩ | ⟨-, e⟩ <;> simp [e]

/-- 10_state.md R12: a push never takes the stack above its bound. -/
theorem length_push_le_bound (v : Byte) (h : u.stack.length ≤ 512) : (push v u).stack.length ≤ 512 := by
  rcases push_cases v u with ⟨hlt, e⟩ | ⟨-, e⟩
  · rw [e]
    exact hlt
  · rw [e]
    exact h

/-! ### The sticky bits -/

/-- `u` is on the way from `s` without a trap: ERR is NONE and OVF_SEEN as it was, or a push has failed and both say
so. -/
def Untrapped (s u : State) : Prop :=
  u.fault = s.fault ∧ (u.err = .none ∧ u.ovfSeen = s.ovfSeen ∨ u.err = .stackOverflow ∧ u.ovfSeen = true)

theorem Quiet.untrapped (q : Quiet s u) : Untrapped s u := by
  obtain ⟨herr, hovf, hfault⟩ := q
  exact ⟨hfault, .inl ⟨herr, hovf⟩⟩

theorem Untrapped.push (h : Untrapped s u) (v : Byte) : Untrapped s (push v u) := by
  rcases push_cases v u with ⟨-, e⟩ | ⟨-, e⟩ <;> rw [e]
  · exact h
  · exact ⟨h.1, .inr ⟨rfl, rfl⟩⟩

/-- 60_exceptions.md section 1: an instruction traps exactly when it is a division by zero. -/
theorem exec_trap_or_untrapped (h : exec i s = .next t) :
    (((i = .div ∨ i = .mod) ∧ s.popped 1 = 0) ∧ t = markDivByZero s) ∨
      (¬ ((i = .div ∨ i = .mod) ∧ s.popped 1 = 0) ∧ Untrapped s t) := by
  cases exec_shape i h with
  | trap hi h0 => exact .inl ⟨⟨hi, h0⟩, rfl⟩
  | plain u q hi hl => exact .inr ⟨by tauto, q.untrapped⟩
  | result u v q hi hl => exact .inr ⟨by tauto, q.untrapped.push v⟩
  | grow u v q hi hl =>
    refine .inr ⟨?_, q.untrapped.push v⟩
    rintro ⟨rfl | rfl, -⟩ <;> exact absurd hi (by decide)
  | label u v w q hi hl => exact .inr ⟨by simp [hi], (q.untrapped.push w).push v⟩
  | swap u v w q hi hl => exact .inr ⟨by simp [hi], (q.untrapped.push w).push v⟩

theorem exec_fault_iff (h : exec i s = .next t) : t.fault = true ↔ s.fault = true ∨ t.err = .divByZero := by
  rcases exec_trap_or_untrapped h with ⟨-, rfl⟩ | ⟨-, hfault, ⟨herr, -⟩ | ⟨herr, -⟩⟩
  · simp
  · simp [hfault, herr]
  · simp [hfault, herr]

theorem exec_ovfSeen_iff (h : exec i s = .next t) : t.ovfSeen = true ↔ s.ovfSeen = true ∨ t.err = .stackOverflow := by
  rcases exec_trap_or_untrapped h with ⟨-, rfl⟩ | ⟨-, -, ⟨herr, hovf⟩ | ⟨herr, hovf⟩⟩
  · simp
  · simp [hovf, herr]
  · simp [hovf, herr]

theorem exec_divByZero_iff (h : exec i s = .next t) :
    t.err = .divByZero ↔ (i = .div ∨ i = .mod) ∧ s.popped 1 = 0 := by
  rcases exec_trap_or_untrapped h with ⟨hdiv, rfl⟩ | ⟨hdiv, -, ⟨herr, -⟩ | ⟨herr, -⟩⟩
  · exact iff_of_true rfl hdiv
  · exact iff_of_false (by simp [herr]) hdiv
  · exact iff_of_false (by simp [herr]) hdiv

/-- Settles O42: the three reports of an instruction, and the codes of ERR. -/
theorem errorReportsFollowTheStep : Obligations.ErrorReportsFollowTheStep := by
  refine ⟨fun _ _ _ h => ⟨exec_fault_iff h, exec_ovfSeen_iff h, exec_divByZero_iff h⟩, fun e => ?_, rfl, rfl, rfl⟩
  cases e <;> decide

/-! ### The stack's bound -/

theorem Quiet.full_of_push {v : Byte} (q : Quiet s u) (h : (push v u).err = .stackOverflow) :
    512 ≤ u.stack.length := by
  refine (stackOverflow_of_push h).resolve_left ?_
  rw [q.1]
  exact nofun

theorem Quiet.full_of_push_push {v w : Byte} (q : Quiet s u) (h : (push v (push w u)).err = .stackOverflow) :
    512 ≤ u.stack.length + 1 := by
  rcases stackOverflow_of_push h with hw | hlen
  · exact (q.full_of_push hw).trans (Nat.le_succ _)
  · exact hlen.trans (length_push_le w u)

/-- Settles O41: the pops of an instruction leave room for its pushes, but for the pushes without a pop and the second
push of `l`. -/
theorem overflowOnlyFromFourKinds : Obligations.OverflowOnlyFromFourKinds := by
  intro i s t hle h herr
  cases exec_shape i h with
  | trap hi h0 => cases herr
  | plain u q hi hl => exact nomatch q.1.symm.trans herr
  | result u v q hi hl =>
    have hfull := q.full_of_push herr
    omega
  | grow u v q hi hl =>
    refine ⟨hle.antisymm (hl ▸ q.full_of_push herr), ?_⟩
    exact List.mem_append_left [Instr.label] hi
  | label u v w q hi hl =>
    have hfull := q.full_of_push_push herr
    exact ⟨by omega, hi ▸ List.mem_append_right growing (List.mem_singleton_self _)⟩
  | swap u v w q hi hl =>
    have hfull := q.full_of_push_push herr
    omega

/-- 10_state.md R11: every instruction keeps the stack within its bound. -/
theorem exec_keeps_stack_le (h : exec i s = .next t) (hle : s.stack.length ≤ 512) : t.stack.length ≤ 512 := by
  cases exec_shape i h with
  | trap hi h0 => exact hle
  | plain u q hi hl => exact hl.trans hle
  | result u v q hi hl => exact length_push_le_bound v (by omega)
  | grow u v q hi hl => exact length_push_le_bound v (hl ▸ hle)
  | label u v w q hi hl => exact length_push_le_bound v (length_push_le_bound w (by omega))
  | swap u v w q hi hl => exact length_push_le_bound v (length_push_le_bound w (by omega))

end Sys2Proof.Machine
end

section
/-! The handlers: what each instruction does between the start of a step and its tail advance, as one function. -/

namespace Sys2Proof.Machine

/-- The handler of each instruction (40_dispatch.md R58); `exec_eq` ties it to `exec`. Those of `/` and `%` are what runs
when they do not trap; the last arm is for the sixteen literals. -/
def handler : Instr → State → State
  | .goEast => fun u => u.withDir .east
  | .goWest => fun u => u.withDir .west
  | .goSouth => fun u => u.withDir .south
  | .goNorth => fun u => u.withDir .north
  | .goRandom => fun u => (drawRand2 u).2.withDir (dirOfCode (drawRand2 u).1)
  | .add => binaryOp fun a b => trunc8 ((a.toNat : Int) + b.toNat)
  | .sub => binaryOp fun a b => trunc8 ((a.toNat : Int) - b.toNat)
  | .mul => binaryOp fun a b => trunc8 ((a.toNat : Int) * b.toNat)
  | .div => binaryOp fun a b => trunc8 ((a.toNat / b.toNat : Nat) : Int)
  | .mod => binaryOp fun a b => trunc8 ((a.toNat % b.toNat : Nat) : Int)
  | .not => unaryOp fun a => if a = 0 then 1 else 0
  | .greater => binaryOp fun a b => if b.toNat > a.toNat then 1 else 0
  | .ifVertical => branchOp .south .north
  | .ifHorizontal => branchOp .east .west
  | .swap => fun u => push (pop2 u).2.1 (push (pop2 u).1 (pop2 u).2.2)
  | .dup => fun u => push (peek u) u
  | .drop => fun u => (pop u).2
  | .get => loadOp fun v => v
  | .getHex => loadOp hexDecode
  | .put => storeOp fun v => v
  | .putHex => storeOp hexDecode
  | .skip => moveIp
  | .quote => fun u => push (byteAtIp (moveIp u)) (moveIp u)
  | .jump => fun u => (pop2 u).2.2.withIp (pop2 u).1 (pop2 u).2.1
  | .label => fun u =>
    if (labelOf (pop u).2 (pop u).1).valid then pushLabel (labelOf (pop u).2 (pop u).1) (pop u).2 else (pop u).2
  | .pixel => fun u => raiseRedraw (fbWrite (pop2 u).2.2 (pop2 u).1.toNat (pop2 u).2.1.toNat 1)
  | .sprite => fun u =>
    raiseRedraw (drawSprite (pop4 u).1 (pop4 u).2.1 (pop4 u).2.2.1 (pop4 u).2.2.2.1 (pop4 u).2.2.2.2)
  | .clear => fun u => raiseRedraw (fbClear u)
  | .halt => fun u => raiseShutdown (u.withIp 0 0)
  | .nopSpace => fun u => u
  | .nopDefault _ => fun u => u
  | i => pushLiteral (encode i)

theorem divideOp_eq (f : Byte → Byte → Byte) (s : State) : divideOp f s =
    .next (if s.popped 1 = 0 then markDivByZero s else moveIp (binaryOp f (clearErr s))) := by
  rcases divideOp_cases f s with ⟨h, e⟩ | ⟨h, e⟩
  · rw [e, if_pos h]
  · rw [e, if_neg h]
    rfl

/-- `exec` in one equation: the trap, or the handler with ERR cleared before it and the advance after it. -/
theorem exec_eq (i : Instr) (s : State) : exec i s = .next
    (if (i = .div ∨ i = .mod) ∧ s.popped 1 = 0 then markDivByZero s else moveIp (handler i (clearErr s))) := by
  cases i
  case div => simp [exec_div, divideOp_eq, handler]
  case mod => simp [exec_mod, divideOp_eq, handler]
  all_goals
    rw [if_neg (by simp)]
    rfl

theorem exec_cases {i : Instr} {s t : State} (h : exec i s = .next t) :
    (((i = .div ∨ i = .mod) ∧ s.popped 1 = 0) ∧ t = markDivByZero s) ∨ t = moveIp (handler i (clearErr s)) := by
  rw [exec_eq] at h
  cases h
  split
  · next hdiv => exact .inl ⟨hdiv, rfl⟩
  · exact .inr rfl

end Sys2Proof.Machine
end

section
/-! The devices: DIR, the framebuffer with REDRAW, SHUTDOWN, GAMEPAD and the draws, which most instructions leave
alone. -/

namespace Sys2Proof.Machine

/-- The elements of a state that only the instructions named in `devicesAfter` write. -/
structure Devices where
  dir : Dir
  fb : Frame
  shutdown : Bool
  redraw : Bool
  gamepad : BitVec 16
  draws : Nat

def State.devices (s : State) : Devices := ⟨s.dir, s.fb, s.shutdown, s.redraw, s.gamepad, s.draws⟩

/-- The devices after an instruction: 41_movement.md R66 to R70, 43_logic.md R79 and R80, 46_drawing.md R92 to R95 and
47_control.md R97 write one or two of them, no other rule writes any. -/
def devicesAfter (s : State) : Instr → Devices
  | .goEast => { s.devices with dir := .east }
  | .goWest => { s.devices with dir := .west }
  | .goSouth => { s.devices with dir := .south }
  | .goNorth => { s.devices with dir := .north }
  | .goRandom => { s.devices with dir := dirOfCode (Config.rand2 s.draws), draws := s.draws + 1 }
  | .ifVertical => { s.devices with dir := if s.popped 0 = 0 then .south else .north }
  | .ifHorizontal => { s.devices with dir := if s.popped 0 = 0 then .east else .west }
  | .pixel => { s.devices with fb := (fbWrite s (s.popped 0).toNat (s.popped 1).toNat 1).fb, redraw := true }
  | .sprite => { s.devices with
      fb := (drawSprite (s.popped 0) (s.popped 1) (s.popped 2) (s.popped 3) s).fb, redraw := true }
  | .clear => { s.devices with fb := (fbClear s).fb, redraw := true }
  | .halt => { s.devices with shutdown := true }
  | _ => s.devices

variable {i : Instr} {s t : State}

/-! ### The operand forms -/

@[simp] theorem devices_push (v : Byte) (s : State) : (push v s).devices = s.devices := by
  rcases push_cases v s with ⟨-, e⟩ | ⟨-, e⟩ <;> rw [e] <;> rfl

@[simp] theorem devices_withStack (l : List Byte) (s : State) : (s.withStack l).devices = s.devices := rfl

theorem devices_unaryOp (f : Byte → Byte) (s : State) : (unaryOp f s).devices = s.devices := by
  rw [unaryOp_eq, devices_push, devices_withStack]

theorem devices_binaryOp (f : Byte → Byte → Byte) (s : State) : (binaryOp f s).devices = s.devices := by
  rw [binaryOp_eq, devices_push, devices_withStack]

theorem devices_loadOp (f : Byte → Byte) (s : State) : (loadOp f s).devices = s.devices := by
  rw [loadOp_eq, devices_push, devices_withStack]

theorem devices_storeOp (f : Byte → Byte) (s : State) : (storeOp f s).devices = s.devices := by
  rw [storeOp_eq]
  rfl

theorem devices_branchOp (zero other : Dir) (s : State) : (branchOp zero other s).devices =
    { s.devices with dir := if s.popped 0 = 0 then zero else other } := by
  rw [branchOp_eq]
  rfl

/-! ### The instructions -/

theorem handler_devices (i : Instr) (u : State) : (handler i u).devices = devicesAfter u i := by
  cases i
  case goEast | goWest | goSouth | goNorth | goRandom => rfl
  case clear | halt => rfl
  case pixel =>
    simp only [handler, pop2_eq]
    rfl
  case sprite =>
    simp only [handler, pop4_eq]
    rfl
  case nopSpace | nopDefault | skip | jump | drop => rfl
  case ifVertical | ifHorizontal => exact devices_branchOp _ _ u
  case add | sub | mul | div | mod | greater => exact devices_binaryOp _ u
  case not => exact devices_unaryOp _ u
  case get | getHex => exact devices_loadOp _ u
  case put | putHex => exact devices_storeOp _ u
  case swap => exact (devices_push _ _).trans (devices_push _ _)
  case dup => exact devices_push _ u
  case quote => exact devices_push _ (moveIp u)
  case label =>
    simp only [handler, pop_eq]
    split
    · exact (devices_push _ _).trans (devices_push _ _)
    · rfl
  all_goals exact devices_push _ u

/-- What each instruction leaves in the devices; a trap writes none, and neither `/` nor `%` does. -/
theorem exec_devices (h : exec i s = .next t) : t.devices = devicesAfter s i := by
  rcases exec_cases h with ⟨⟨hi, -⟩, rfl⟩ | rfl
  · rcases hi with rfl | rfl <;> rfl
  · exact handler_devices i (clearErr s)

/-! ### What an instruction that is not named leaves alone -/

theorem devicesAfter_dir (s : State)
    (hi : i ∉ [.goEast, .goWest, .goSouth, .goNorth, .goRandom, .ifVertical, .ifHorizontal]) :
    (devicesAfter s i).dir = s.dir := by
  cases i
  case goEast | goWest | goSouth | goNorth | goRandom | ifVertical | ifHorizontal => exact absurd hi (by decide)
  all_goals rfl

theorem devicesAfter_fb_redraw (s : State) (hi : i ∉ [.pixel, .sprite, .clear]) :
    (devicesAfter s i).fb = s.fb ∧ (devicesAfter s i).redraw = s.redraw := by
  cases i
  case pixel | sprite | clear => exact absurd hi (by decide)
  all_goals exact ⟨rfl, rfl⟩

theorem devicesAfter_redraw_of_drawing (s : State) (hi : i ∈ [.pixel, .sprite, .clear]) :
    (devicesAfter s i).redraw = true := by
  simp only [List.mem_cons, List.not_mem_nil, or_false] at hi
  rcases hi with rfl | rfl | rfl <;> rfl

theorem devicesAfter_shutdown (s : State) (hi : i ≠ .halt) : (devicesAfter s i).shutdown = s.shutdown := by
  cases i
  case halt => exact absurd rfl hi
  all_goals rfl

theorem devicesAfter_draws (s : State) (hi : i ≠ .goRandom) : (devicesAfter s i).draws = s.draws := by
  cases i
  case goRandom => exact absurd rfl hi
  all_goals rfl

theorem devicesAfter_gamepad (s : State) (i : Instr) : (devicesAfter s i).gamepad = s.gamepad := by
  cases i <;> rfl

theorem exec_gamepad (h : exec i s = .next t) : t.gamepad = s.gamepad :=
  (congrArg Devices.gamepad (exec_devices h)).trans (devicesAfter_gamepad s i)

end Sys2Proof.Machine

namespace Sys2Proof.Machine

/-- Settles O43: the framebuffer and REDRAW among the devices. -/
theorem onlyDrawingTouchesFramebuffer : Obligations.OnlyDrawingTouchesFramebuffer := by
  intro i s t h
  have hfb : t.fb = (devicesAfter s i).fb := congrArg Devices.fb (exec_devices h)
  have hredraw : t.redraw = (devicesAfter s i).redraw := congrArg Devices.redraw (exec_devices h)
  refine ⟨fun hi => ?_, fun hi => hredraw.trans (devicesAfter_redraw_of_drawing s hi)⟩
  obtain ⟨hsame, hsame'⟩ := devicesAfter_fb_redraw s hi
  exact ⟨fbRead_congr (hfb.trans hsame), hredraw.trans hsame'⟩

/-- Settles O44: GAMEPAD, SHUTDOWN and the draws among the devices; the label index is `exec_labels`. -/
theorem instructionsLeaveHostStateAlone : Obligations.InstructionsLeaveHostStateAlone := by
  intro i s t h
  have hshutdown : t.shutdown = (devicesAfter s i).shutdown := congrArg Devices.shutdown (exec_devices h)
  have hdraws : t.draws = (devicesAfter s i).draws := congrArg Devices.draws (exec_devices h)
  refine ⟨labelOf_congr (exec_labels h), exec_gamepad h, fun hi => ?_, ?_, fun hi => ?_, ?_⟩
  · exact hshutdown.trans (devicesAfter_shutdown s hi)
  · rintro rfl
    exact hshutdown
  · exact hdraws.trans (devicesAfter_draws s hi)
  · rintro rfl
    exact hdraws

/-! ### The direction mux -/

/-- 10_state.md R10: the codes are a numbering of the directions. -/
theorem dirCode_dirOfCode : ∀ c : BitVec 2, dirCode (dirOfCode c) = c := by
  decide

/-- 40_dispatch.md R59: `trunc8` of one more or one less is the byte's own. -/
theorem advance_eq (x y : Byte) :
    advance x y .east = (x + 1, y) ∧ advance x y .west = (x - 1, y) ∧
      advance x y .south = (x, y + 1) ∧ advance x y .north = (x, y - 1) := by
  have hadd (b : Byte) : trunc8 ((b.toNat : Int) + 1) = b + 1 := trunc8_add b 1
  have hsub (b : Byte) : trunc8 ((b.toNat : Int) - 1) = b - 1 := trunc8_sub b 1
  simp only [advance, hadd, hsub, and_self]

/-- Settles O18: the codes, the advances, and DIR among the devices. -/
theorem directionMuxInputs : Obligations.DirectionMuxInputs := by
  refine ⟨⟨rfl, rfl, rfl, rfl⟩, advance_eq, fun i s t h => ?_⟩
  have hdir : t.dir = (devicesAfter s i).dir := congrArg Devices.dir (exec_devices h)
  rw [hdir]
  refine ⟨?_, ?_, ?_, ?_, ?_, ?_, ?_, devicesAfter_dir s⟩ <;> rintro rfl
  case refine_5 => exact dirCode_dirOfCode _
  all_goals rfl

end Sys2Proof.Machine
end

section
/-! Legal states: every step and every operation of the host keeps them. -/

namespace Sys2Proof.Machine

variable {i : Instr} {s t : State}

theorem exec_keeps_grid_wf (h : exec i s = .next t) (hwf : s.grid.wf) : t.grid.wf := by
  rcases exec_program_cases h with ⟨hgrid, -⟩ | ⟨-, f, hf⟩
  · rwa [hgrid]
  · rw [complete_eq, storeOp_eq] at hf
    cases hf
    exact memWrite_wf (s := (clearErr s).withStack (s.stack.drop 3)) hwf _ _

theorem devicesAfter_fb_wf (i : Instr) (hwf : s.fb.wf) : (devicesAfter s i).fb.wf := by
  cases i
  case pixel => exact fbWrite_wf hwf (s.popped 0).toNat (s.popped 1).toNat 1
  case sprite => exact drawSprite_wf hwf _ _ _ _
  case clear => exact fbClear_wf s
  all_goals exact hwf

theorem exec_keeps_fb_wf (h : exec i s = .next t) (hwf : s.fb.wf) : t.fb.wf := by
  have hfb : t.fb = (devicesAfter s i).fb := congrArg Devices.fb (exec_devices h)
  exact hfb ▸ devicesAfter_fb_wf i hwf

/-- 40_dispatch.md R57: an instruction runs from a block that is not faulted, and then FAULT and ERR tell the same. -/
theorem exec_keeps_legal (h : exec i s = .next t) (hfault : s.fault = false) (hs : s.Legal) : t.Legal where
  grid_wf := exec_keeps_grid_wf h hs.grid_wf
  fb_wf := exec_keeps_fb_wf h hs.fb_wf
  stack_le := exec_keeps_stack_le h hs.stack_le
  label_x := fun c => labelOf_congr (exec_labels h) c ▸ hs.label_x c
  fault_iff := by simpa [hfault] using exec_fault_iff h
  ovf_seen := fun herr => (exec_ovfSeen_iff h).2 (.inr herr)

/-- Settles O45: an enabled block's step is its instruction's. -/
theorem stepKeepsLegal : Obligations.StepKeepsLegal := by
  intro s t hs h
  obtain ⟨hfault, -, hexec⟩ := (step_next_iff s t).1 h
  exact exec_keeps_legal hexec hfault hs

/-! ### Reset and the host -/

theorem labelOf_reset (c : Byte) : labelOf State.reset c = LabelEntry.empty := by
  simp [labelOf, State.reset]

theorem reset_label_x (c : Byte) (h : (labelOf State.reset c).valid = true) : 1 ≤ (labelOf State.reset c).x.toNat := by
  rw [labelOf_reset] at h
  cases h

/-- Settles O46: the grid and the framebuffer list no cell, no label is valid, and no error is reported. -/
theorem resetIsLegal : Obligations.ResetIsLegal where
  grid_wf := reset_grid_wf
  fb_wf := reset_fb_wf
  stack_le := Nat.zero_le 512
  label_x := reset_label_x
  fault_iff := by decide
  ovf_seen := by decide

/-- Settles O54: INIT is the reset state but for the draw counter. -/
theorem initResetsTheBlock : Obligations.InitResetsTheBlock := by
  rintro s _ rfl
  exact ⟨rfl, rfl, rfl, rfl, fun _ => rfl, fun c => congrArg LabelEntry.valid (labelOf_reset c), fun _ => rfl, rfl, rfl,
    rfl, rfl, rfl, rfl⟩

/-- Settles O55: the two writes and the view are the named updates and fields. -/
theorem hostReadsAndWritesFlags : Obligations.HostReadsAndWritesFlags :=
  fun _ _ => ⟨rfl, rfl, rfl⟩

/-- Every valid entry lies right of its `;` (10_state.md R15). -/
def LabelColumns (s : State) : Prop := ∀ c, (labelOf s c).valid = true → 1 ≤ (labelOf s c).x.toNat

theorem scanCell_keeps_labelColumns {x : Nat} (hx : x < 255) (y : Nat) (h : LabelColumns s) :
    LabelColumns (scanCell y s x) := by
  rcases scanCell_cases y s x with ⟨-, e⟩ | ⟨-, e⟩ <;> rw [e]
  · exact h
  intro c
  rw [labelOf_setLabel]
  split
  · intro _
    rw [BitVec.toNat_ofNat]
    omega
  · exact h c

theorem scanRow_keeps_labelColumns (y : Nat) (h : LabelColumns s) : LabelColumns (scanRow s y) :=
  List.foldlRecOn _ _ h fun _ hu _ hx => scanCell_keeps_labelColumns (List.mem_range.1 hx) y hu

theorem labelScan_labelColumns (s : State) : LabelColumns (labelScan s) := by
  refine foldl_keeps (P := LabelColumns) (fun _ y => scanRow_keeps_labelColumns y) _ fun c hc => ?_
  rw [labelOf_invalidateLabels] at hc
  cases hc

/-- 20_memory.md R43: the scan's own entries are legal, and it writes nothing else. -/
theorem labelScan_keeps_legal (hs : s.Legal) : (labelScan s).Legal where
  grid_wf := (congrArg Memory.wf (labelScan_grid s)).mpr hs.grid_wf
  fb_wf := (congrArg Frame.wf (labelScan_fb s)).mpr hs.fb_wf
  stack_le := (congrArg List.length (labelScan_stack s)).trans_le hs.stack_le
  label_x := labelScan_labelColumns s
  fault_iff := by simpa using hs.fault_iff
  ovf_seen := by simpa using hs.ovf_seen

/-- Settles O47: each operation by the fields of Legal it writes; STEP by O45. -/
theorem hostOperationsKeepLegal : Obligations.HostOperationsKeepLegal := by
  intro s hs
  refine ⟨fun a v => { hs with grid_wf := memWrite_wf hs.grid_wf a v }, labelScan_keeps_legal hs, { hs with },
    fun w => { hs with }, { resetIsLegal with }, ?_⟩
  rcases step_cases s with ⟨hf, -⟩ | ⟨-, hsh, -⟩ | ⟨-, -, t, ht⟩
  · rwa [hostStep_of_stopped (.inl hf)]
  · rwa [hostStep_of_stopped (.inr hsh)]
  · exact hostStep_of_next ht ▸ stepKeepsLegal s t hs ht

end Sys2Proof.Machine
end

section
/-! Two blocks no instruction tells apart: they differ in GAMEPAD, or in IP.y by a multiple of 128. -/

namespace Sys2Proof.Machine

/-- The state with another IP.y and another GAMEPAD. -/
def State.relabel (s : State) (y : Byte) (w : BitVec 16) : State := { s with ipY := y, gamepad := w }

/-- `t` is `s` but for GAMEPAD and a multiple of `m` in IP.y. -/
def Twin (m : Nat) (s t : State) : Prop := ∃ y w, s.ipY.toNat % m = y.toNat % m ∧ t = s.relabel y w

variable {m : Nat} {s t : State}

/-! ### What instructions read -/

theorem Twin.popped (h : Twin m s t) (n : Nat) : t.popped n = s.popped n := by
  obtain ⟨y, w, -, rfl⟩ := h
  rfl

theorem Twin.memRead (h : Twin m s t) (a : Fin 32768) : memRead t a = memRead s a := by
  obtain ⟨y, w, -, rfl⟩ := h
  rfl

theorem Twin.labelOf (h : Twin m s t) (c : Byte) : labelOf t c = labelOf s c := by
  obtain ⟨y, w, -, rfl⟩ := h
  rfl

theorem Twin.fault (h : Twin m s t) : t.fault = s.fault := by
  obtain ⟨y, w, -, rfl⟩ := h
  rfl

theorem Twin.shutdown (h : Twin m s t) : t.shutdown = s.shutdown := by
  obtain ⟨y, w, -, rfl⟩ := h
  rfl

/-- 20_memory.md R29: the row is IP.y modulo 128. -/
theorem Twin.byteAtIp (hm : 128 ∣ m) (h : Twin m s t) : byteAtIp t = byteAtIp s := by
  obtain ⟨y, w, hy, rfl⟩ := h
  have hrow : s.ipY.toNat % 128 = y.toNat % 128 := by
    rw [← Nat.mod_mod_of_dvd _ hm, hy, Nat.mod_mod_of_dvd _ hm]
  have haddr : gridAddr s.ipX.toNat y.toNat = gridAddr s.ipX.toNat s.ipY.toNat :=
    gridAddr_congr_row (by omega) _
  exact congrArg (Machine.memRead s) haddr

/-! ### What instructions write -/

/-- What neither reads nor writes IP.y or GAMEPAD keeps twins twins. -/
theorem Twin.map {f : State → State} (h : Twin m s t) (hf : ∀ y w, f (s.relabel y w) = (f s).relabel y w)
    (hip : (f s).ipY = s.ipY) : Twin m (f s) (f t) := by
  obtain ⟨y, w, hy, rfl⟩ := h
  exact ⟨y, w, hip ▸ hy, hf y w⟩

theorem push_relabel (v : Byte) (s : State) (y : Byte) (w : BitVec 16) :
    push v (s.relabel y w) = (push v s).relabel y w := by
  rcases Nat.lt_or_ge s.stack.length 512 with h | h
  · rw [push_of_lt h, push_of_lt (s := s.relabel y w) h]
    rfl
  · rw [push_of_full h, push_of_full (s := s.relabel y w) h]
    rfl

theorem Twin.push (h : Twin m s t) (v : Byte) : Twin m (push v s) (push v t) :=
  h.map (push_relabel v s) (push_ipY v s)

theorem Twin.pops (h : Twin m s t) (n : Nat) :
    Twin m (s.withStack (s.stack.drop n)) (t.withStack (t.stack.drop n)) :=
  h.map (f := fun u => u.withStack (u.stack.drop n)) (fun _ _ => rfl) rfl

theorem toNat_add_mod_congr (hm : m ∣ 256) {y y' : Byte} (h : y.toNat % m = y'.toNat % m) (c : Byte) :
    (y + c).toNat % m = (y' + c).toNat % m := by
  rw [BitVec.toNat_add, BitVec.toNat_add, Nat.mod_mod_of_dvd _ hm, Nat.mod_mod_of_dvd _ hm]
  exact Nat.ModEq.add_right c.toNat h

/-- 40_dispatch.md R59: one cell on, the column is the same and the rows still agree. -/
theorem advance_congr_mod (hm : m ∣ 256) {y y' : Byte} (h : y.toNat % m = y'.toNat % m) (x : Byte) (d : Dir) :
    (advance x y d).1 = (advance x y' d).1 ∧ (advance x y d).2.toNat % m = (advance x y' d).2.toNat % m := by
  obtain ⟨-, -, hsouth, hnorth⟩ := advance_eq x y
  obtain ⟨-, -, hsouth', hnorth'⟩ := advance_eq x y'
  cases d with
  | east => exact ⟨rfl, h⟩
  | west => exact ⟨rfl, h⟩
  | south =>
    rw [hsouth, hsouth']
    exact ⟨rfl, toNat_add_mod_congr hm h 1⟩
  | north =>
    rw [hnorth, hnorth', BitVec.sub_eq_add_neg, BitVec.sub_eq_add_neg]
    exact ⟨rfl, toNat_add_mod_congr hm h (-1)⟩

theorem Twin.moveIp (hm : m ∣ 256) (h : Twin m s t) : Twin m (moveIp s) (moveIp t) := by
  obtain ⟨y, w, hy, rfl⟩ := h
  obtain ⟨hx, hy'⟩ := advance_congr_mod hm hy s.ipX s.dir
  refine ⟨(advance s.ipX y s.dir).2, w, hy', ?_⟩
  simp only [Machine.moveIp, State.withIp, State.relabel, hx]

theorem Twin.withIp (h : Twin m s t) (x y : Byte) : Twin m (s.withIp x y) (t.withIp x y) := by
  obtain ⟨-, w, -, rfl⟩ := h
  exact ⟨y, w, rfl, rfl⟩

/-! ### The operand forms -/

theorem Twin.unaryOp (h : Twin m s t) (f : Byte → Byte) : Twin m (unaryOp f s) (unaryOp f t) := by
  rw [unaryOp_eq, unaryOp_eq, h.popped]
  exact (h.pops 1).push _

theorem Twin.binaryOp (h : Twin m s t) (f : Byte → Byte → Byte) : Twin m (binaryOp f s) (binaryOp f t) := by
  rw [binaryOp_eq, binaryOp_eq, h.popped, h.popped]
  exact (h.pops 2).push _

theorem Twin.loadOp (h : Twin m s t) (f : Byte → Byte) : Twin m (loadOp f s) (loadOp f t) := by
  rw [loadOp_eq, loadOp_eq, h.popped, h.popped, h.memRead]
  exact (h.pops 2).push _

/-! ### The instructions -/

theorem Twin.handler (hm : m ∣ 256) (hm' : 128 ∣ m) (h : Twin m s t) (i : Instr) :
    Twin m (handler i s) (handler i t) := by
  cases i
  case goEast | goWest | goSouth | goNorth | goRandom | ifVertical | ifHorizontal => exact h.map (fun _ _ => rfl) rfl
  case put | putHex | pixel | sprite | clear | drop => exact h.map (fun _ _ => rfl) rfl
  case nopSpace | nopDefault => exact h
  case add | sub | mul | div | mod | greater => exact h.binaryOp _
  case not => exact h.unaryOp _
  case get | getHex => exact h.loadOp _
  case swap =>
    simp only [Machine.handler, pop2_eq, h.popped]
    exact ((h.pops 2).push _).push _
  case dup =>
    simp only [Machine.handler, peek_eq, h.popped]
    exact h.push _
  case skip => exact h.moveIp hm
  case quote =>
    simp only [Machine.handler, (h.moveIp hm).byteAtIp hm']
    exact (h.moveIp hm).push _
  case jump =>
    simp only [Machine.handler, pop2_eq, h.popped]
    exact (h.pops 2).withIp _ _
  case label =>
    simp only [Machine.handler, pop_eq, h.popped, (h.pops 1).labelOf]
    split
    · exact ((h.pops 1).push _).push _
    · exact h.pops 1
  case halt => exact (h.withIp 0 0).map (fun _ _ => rfl) rfl
  all_goals exact h.push _

/-- 40_dispatch.md R58: the two run the same instruction to states that are twins again. -/
theorem exec_twin (hm : m ∣ 256) (hm' : 128 ∣ m) (h : Twin m s t) (i : Instr) :
    ∃ s' t', exec i s = .next s' ∧ exec i t = .next t' ∧ Twin m s' t' := by
  refine ⟨_, _, exec_eq i s, exec_eq i t, ?_⟩
  rw [h.popped]
  split
  · exact h.map (fun _ _ => rfl) rfl
  · exact ((h.map (f := clearErr) (fun _ _ => rfl) rfl).handler hm hm' i).moveIp hm

/-- 40_dispatch.md R57: the two stop for the same reason or run the same instruction, each keeping its GAMEPAD. -/
theorem step_twin (hm : m ∣ 256) (hm' : 128 ∣ m) (h : Twin m s t) :
    (step s = .fault .stopped ∧ step t = .fault .stopped) ∨
      (step s = .refused .shutDown ∧ step t = .refused .shutDown) ∨
      ∃ s' t', step s = .next s' ∧ step t = .next t' ∧ Twin m s' t' ∧ s'.gamepad = s.gamepad ∧
        t'.gamepad = t.gamepad := by
  rcases step_cases s with ⟨hf, e⟩ | ⟨hf, hs, e⟩ | ⟨hf, hs, -⟩
  · exact .inl ⟨e, step_of_fault (h.fault.trans hf)⟩
  · exact .inr (.inl ⟨e, step_of_shutdown (h.fault.trans hf) (h.shutdown.trans hs)⟩)
  · obtain ⟨s', t', hs', ht', h'⟩ := exec_twin hm hm' h (decodeByte (byteAtIp s))
    have hstep : step t = exec (decodeByte (byteAtIp s)) t := by
      rw [step_of_enabled (h.fault.trans hf) (h.shutdown.trans hs), h.byteAtIp hm']
    exact .inr (.inr ⟨s', t', (step_of_enabled hf hs).trans hs', hstep.trans ht', h', exec_gamepad hs',
      exec_gamepad ht'⟩)

/-! ### The two kinds of twins -/

theorem sameRow_iff_twin (s t : State) : sameRow s t ↔ Twin 128 s t ∧ t.gamepad = s.gamepad := by
  refine ⟨fun ⟨hy, ht⟩ => ⟨⟨t.ipY, t.gamepad, hy, ?_⟩, ?_⟩, ?_⟩
  · rw [← ht]
    rfl
  · rw [← ht]
  · rintro ⟨⟨y, w, hy, rfl⟩, hw⟩
    obtain rfl : w = s.gamepad := hw
    exact ⟨hy, rfl⟩

/-- Modulo 256 the two have the same IP.y. -/
theorem twin_256_iff (s t : State) : Twin 256 s t ↔ t = { s with gamepad := t.gamepad } := by
  refine ⟨?_, fun h => ⟨s.ipY, t.gamepad, rfl, h⟩⟩
  rintro ⟨y, w, hy, rfl⟩
  obtain rfl : s.ipY = y := by bv_omega
  rfl

end Sys2Proof.Machine

namespace Sys2Proof.Machine

/-- Settles O48: blocks in the same row are twins modulo 128, and the step leaves GAMEPAD as it was in both. -/
theorem rowAliasIsInvisible : Obligations.RowAliasIsInvisible := by
  intro s t h
  obtain ⟨htwin, hgamepad⟩ := (sameRow_iff_twin s t).1 h
  rcases step_twin (by decide) (by decide) htwin with ⟨hs, ht⟩ | ⟨hs, ht⟩ | ⟨s', t', hs, ht, htwin', hgs, hgt⟩
  · rw [hs, ht]
    rfl
  · rw [hs, ht]
    rfl
  · rw [hs, ht]
    exact (sameRow_iff_twin s' t').2 ⟨htwin', by rw [hgt, hgamepad, hgs]⟩

/-- Settles O49: blocks that differ in GAMEPAD are twins modulo 256, and the step leaves GAMEPAD as it was in both. -/
theorem gamepadAffectsNothing : Obligations.GamepadAffectsNothing := by
  intro s w
  have htwin : Twin 256 s { s with gamepad := w } := (twin_256_iff _ _).2 rfl
  rcases step_twin (by decide) (by decide) htwin with ⟨hs, ht⟩ | ⟨hs, ht⟩ | ⟨s', t', hs, ht, htwin', -, hgt⟩
  · rw [hs, ht]
    rfl
  · rw [hs, ht]
    rfl
  · rw [hs, ht, (twin_256_iff s' t').1 htwin', hgt]
    rfl

end Sys2Proof.Machine
end

section
/-! A run over an empty row. -/

namespace Sys2Proof.Machine

/-- 70_reset_and_hazards.md R116: the byte 0x00 is a default no-op, so the step is the advance East. -/
theorem step_of_empty_cell {s : State} (hf : s.fault = false) (hs : s.shutdown = false) (hd : s.dir = .east)
    (he : s.err = .none) (h0 : byteAtIp s = 0) : step s = .next { s with ipX := s.ipX + 1 } := by
  have hdec : decodeByte 0 = .nopDefault 0 := decodeByte_of_isDefaultByte (by decide)
  rw [step_of_enabled hf hs, h0, hdec, exec_nopDefault_eq, State.endsHere, State.endsAt, hd,
    (advance_eq s.ipX s.ipY).1, ← he, ← hd]

/-- Settles O50: by induction on the steps; each leaves a block to which the induction applies, one column further. -/
theorem emptyRowRunsEast : Obligations.EmptyRowRunsEast := by
  intro n
  induction n with
  | zero =>
    intro s _ _ _ _ _
    simp [runSteps]
  | succ n ih =>
    intro s hf hs hd he hrow
    have hstep := step_of_empty_cell hf hs hd he (hrow s.ipX)
    have hcols : s.ipX + 1 + BitVec.ofNat 8 n = s.ipX + BitVec.ofNat 8 (n + 1) := by
      rw [BitVec.ofNat_add, add_assoc, add_comm 1]
      rfl
    rw [runSteps_succ n hstep, ih { s with ipX := s.ipX + 1 } hf hs hd he hrow]
    exact congrArg (fun x => Host.Outcome.next { s with ipX := x }) hcols

end Sys2Proof.Machine
end

section
/-! The label scan as one walk over the cells in row-major order: the last cell that names a key gives its entry. -/

namespace Sys2Proof.Machine

/-- 20_memory.md R43: the cells (x, y) the scan visits, in its order. -/
def scanOrder : List (Nat × Nat) :=
  (List.range 128).flatMap fun y => (List.range 255).map fun x => (x, y)

/-- (x, y) comes before (x', y') in row-major order. -/
def ScanLT (p q : Nat × Nat) : Prop := p.2 < q.2 ∨ p.2 = q.2 ∧ p.1 < q.1

theorem mem_scanOrder (p : Nat × Nat) : p ∈ scanOrder ↔ p.1 < 255 ∧ p.2 < 128 := by
  obtain ⟨x, y⟩ := p
  simp [scanOrder, and_comm]

theorem scanOrder_pairwise : scanOrder.Pairwise ScanLT := by
  refine List.pairwise_flatMap.2 ⟨fun y _ => ?_, ?_⟩
  · exact List.pairwise_map.2 (List.pairwise_lt_range.imp fun h => .inr ⟨rfl, h⟩)
  · refine List.pairwise_lt_range.imp fun h p hp q hq => .inl ?_
    obtain ⟨_, -, rfl⟩ := List.mem_map.1 hp
    obtain ⟨_, -, rfl⟩ := List.mem_map.1 hq
    exact h

/-- The visits of `cells`, in their order. -/
def scanCells (cells : List (Nat × Nat)) (s : State) : State := cells.foldl (fun u p => scanCell p.2 u p.1) s

theorem labelScan_eq_scanCells (s : State) : labelScan s = scanCells scanOrder (invalidateLabels s) := by
  rw [scanCells, scanOrder, List.foldl_flatMap]
  simp only [List.foldl_map]
  rfl

/-! ### A visit -/

/-- The cell holds a `;`, and the one in the next column the key `c`. -/
def Names (s : State) (c : Byte) (p : Nat × Nat) : Prop :=
  memRead s (gridAddr p.1 p.2) = 0x3B ∧ memRead s (gridAddr ((p.1 : Int) + 1) p.2) = c

theorem marksLabel_iff (s : State) (c : Byte) (x y : Nat) :
    marksLabel s c x y ↔ (x, y) ∈ scanOrder ∧ Names s c (x, y) := by
  rw [mem_scanOrder, marksLabel, Names, and_assoc]

theorem names_congr {s t : State} (h : t.grid = s.grid) (c : Byte) (p : Nat × Nat) : Names t c p ↔ Names s c p := by
  rw [Names, Names, memRead_congr h, memRead_congr h]

theorem scanCell_grid (y : Nat) (s : State) (x : Nat) : (scanCell y s x).grid = s.grid := by
  obtain ⟨l, hl⟩ := scanCell_labels_only y s x
  rw [hl, State.withLabels_grid]

theorem scanCells_grid (cells : List (Nat × Nat)) (s : State) : (scanCells cells s).grid = s.grid :=
  foldl_keeps (P := fun u => u.grid = s.grid) (fun u p hu => (scanCell_grid p.2 u p.1).trans hu) cells rfl

theorem labelOf_scanCell_of_names {s : State} {c : Byte} {x y : Nat} (h : Names s c (x, y)) :
    labelOf (scanCell y s x) c = { valid := true, x := BitVec.ofNat 8 (x + 1), y := BitVec.ofNat 7 y } := by
  obtain ⟨hsemi, hkey⟩ := h
  rcases scanCell_cases y s x with ⟨hne, -⟩ | ⟨-, e⟩
  · exact absurd hsemi hne
  · rw [e, labelOf_setLabel, if_pos hkey.symm]

theorem labelOf_scanCell_of_not_names {s : State} {c : Byte} {x y : Nat} (h : ¬ Names s c (x, y)) :
    labelOf (scanCell y s x) c = labelOf s c := by
  rcases scanCell_cases y s x with ⟨-, e⟩ | ⟨hsemi, e⟩
  · rw [e]
  · rw [e, labelOf_setLabel, if_neg fun hkey => h ⟨hsemi, hkey.symm⟩]

/-! ### A walk -/

theorem labelOf_scanCells_of_not_names {cells : List (Nat × Nat)} {s : State} {c : Byte}
    (h : ∀ p ∈ cells, ¬ Names s c p) : labelOf (scanCells cells s) c = labelOf s c := by
  induction cells generalizing s with
  | nil => rfl
  | cons p cells ih =>
    obtain ⟨hp, hcells⟩ := List.forall_mem_cons.1 h
    have hrest : ∀ q ∈ cells, ¬ Names (scanCell p.2 s p.1) c q := fun q hq =>
      (names_congr (scanCell_grid p.2 s p.1) c q).not.2 (hcells q hq)
    exact (ih hrest).trans (labelOf_scanCell_of_not_names hp)

/-- The cell that names `c` and has none after it that does gives the entry, whatever came before. -/
theorem labelOf_scanCells_of_last {before after : List (Nat × Nat)} {s : State} {c : Byte} {x y : Nat}
    (h : Names s c (x, y)) (hafter : ∀ p ∈ after, ¬ Names s c p) :
    labelOf (scanCells (before ++ (x, y) :: after) s) c =
      { valid := true, x := BitVec.ofNat 8 (x + 1), y := BitVec.ofNat 7 y } := by
  have hgrid := scanCells_grid before s
  have hgrid' := (scanCell_grid y (scanCells before s) x).trans hgrid
  have hsplit : scanCells (before ++ (x, y) :: after) s = scanCells after (scanCell y (scanCells before s) x) := by
    rw [scanCells, List.foldl_append, List.foldl_cons]
    rfl
  rw [hsplit, labelOf_scanCells_of_not_names fun p hp => (names_congr hgrid' c p).not.2 (hafter p hp),
    labelOf_scanCell_of_names ((names_congr hgrid c _).2 h)]

/-- Settles O52: the scan's order is row-major, so the cells after (x, y) in it are the later ones. -/
theorem lastLabelInScanOrderWins : Obligations.LastLabelInScanOrderWins := by
  refine ⟨fun s c x y hmark hlast => ?_, fun s c hnone => ?_, fun s => ?_⟩
  · obtain ⟨hmem, hnames⟩ := (marksLabel_iff s c x y).1 hmark
    obtain ⟨before, after, hsplit⟩ := List.append_of_mem hmem
    have hsorted := scanOrder_pairwise
    rw [hsplit] at hsorted
    have hlater : ∀ p ∈ after, ScanLT (x, y) p := (List.pairwise_cons.1 (List.pairwise_append.1 hsorted).2.1).1
    rw [labelScan_eq_scanCells, hsplit]
    refine labelOf_scanCells_of_last hnames fun p hp hnames' => ?_
    have hmem' : p ∈ scanOrder := hsplit ▸ List.mem_append_right before (List.mem_cons_of_mem _ hp)
    have hle := hlast p.1 p.2 ((marksLabel_iff s c p.1 p.2).2 ⟨hmem', hnames'⟩)
    have hlt := hlater p hp
    simp only [ScanLT] at hlt
    omega
  · have hunnamed : ∀ p ∈ scanOrder, ¬ Names (invalidateLabels s) c p := fun p hp hnames =>
      hnone p.1 p.2 ((marksLabel_iff s c p.1 p.2).2 ⟨hp, hnames⟩)
    rw [labelScan_eq_scanCells, labelOf_scanCells_of_not_names hunnamed, labelOf_invalidateLabels]
  · obtain ⟨l, hl⟩ := labelScan_labels_only s
    rw [hl]
    rfl

end Sys2Proof.Machine
end

section
/-! The reference loader: a well-formed ROM is one run of bytes from cell 0, its lines padded to whole rows. -/

namespace Sys2Proof.Machine

/-! ### The lines of a file -/

theorem romLines_of_line {l : List Byte} (h : (0x0A : Byte) ∉ l) (rest : List Byte) :
    romLines (l ++ 0x0A :: rest) = l :: romLines rest := by
  induction l with
  | nil => rfl
  | cons b l ih =>
    obtain ⟨hb, hl⟩ := List.ne_and_not_mem_of_not_mem_cons h
    rw [List.cons_append, romLines, if_neg (Ne.symm hb), ih hl]
    rfl

theorem romLines_of_last {l : List Byte} (h : (0x0A : Byte) ∉ l) : romLines l = if l = [] then [] else [l] := by
  induction l with
  | nil => rfl
  | cons b l ih =>
    obtain ⟨hb, hl⟩ := List.ne_and_not_mem_of_not_mem_cons h
    rw [romLines, if_neg (Ne.symm hb), ih hl, if_neg (List.cons_ne_nil b l)]
    by_cases hnil : l = []
    · rw [hnil]
      rfl
    · rw [if_neg hnil]
      rfl

theorem romOf_cons (l : List Byte) (lines : List (List Byte)) (last : List Byte) :
    romOf (l :: lines) last = l ++ 0x0A :: romOf lines last := by
  simp [romOf]

theorem romLines_romOf {lines : List (List Byte)} {last : List Byte} (h : ∀ l ∈ lines ++ [last], (0x0A : Byte) ∉ l) :
    romLines (romOf lines last) = lines ++ if last = [] then [] else [last] := by
  induction lines with
  | nil => exact romLines_of_last (h last (by simp))
  | cons l lines ih =>
    obtain ⟨hl, hlines⟩ := List.forall_mem_cons.1 h
    rw [romOf_cons, romLines_of_line hl, ih hlines, List.cons_append]

/-! ### The writes of a file -/

/-- The LOAD_WRITEs of consecutive bytes from offset `pos`. -/
def writeRun (pos : Nat) (bytes : List Byte) : List Host.Cell := (bytes.zipIdx pos).map Prod.swap

/-- A line filled up with 0 to the 256 columns of a row. -/
def padLine (l : List Byte) : List Byte := l ++ List.replicate (256 - l.length) 0

theorem length_padLine {l : List Byte} (h : l.length ≤ 254) : (padLine l).length = 256 := by
  rw [padLine, List.length_append, List.length_replicate]
  omega

theorem writeRun_cons (pos : Nat) (b : Byte) (bytes : List Byte) :
    writeRun pos (b :: bytes) = (pos, b) :: writeRun (pos + 1) bytes := rfl

theorem writeRun_append (pos : Nat) (l r : List Byte) :
    writeRun pos (l ++ r) = writeRun pos l ++ writeRun (pos + l.length) r := by
  rw [writeRun, List.zipIdx_append, List.map_append]
  rfl

theorem padCells_eq_writeRun (pos n : Nat) : padCells pos n = writeRun pos (List.replicate n 0) := by
  refine List.ext_getElem (by simp [padCells, writeRun]) fun k _ _ => ?_
  simp [padCells, writeRun]

/-- 20_memory.md R47: below column 255 a byte that is no newline goes to the next cell. -/
theorem romWrites_append {l : List Byte} (h : (0x0A : Byte) ∉ l) (rest : List Byte) {col : Nat}
    (hcol : col + l.length ≤ 254) (pos : Nat) :
    romWrites (l ++ rest) pos col = writeRun pos l ++ romWrites rest (pos + l.length) (col + l.length) := by
  induction l generalizing pos col with
  | nil => rfl
  | cons b l ih =>
    obtain ⟨hb, hl⟩ := List.ne_and_not_mem_of_not_mem_cons h
    rw [List.length_cons] at hcol
    rw [List.cons_append, romWrites, if_neg (Ne.symm hb), if_neg (by omega), ih hl (by omega), writeRun_cons,
      List.length_cons, List.cons_append]
    simp only [Nat.add_assoc, Nat.add_comm 1]

theorem romWrites_line {l : List Byte} (h : (0x0A : Byte) ∉ l) (hlen : l.length ≤ 254) (rest : List Byte) (pos : Nat) :
    romWrites (l ++ 0x0A :: rest) pos 0 = writeRun pos (padLine l) ++ romWrites rest (pos + 256) 0 := by
  have hrow : pos + l.length + (256 - (0 + l.length)) = pos + 256 := by omega
  rw [romWrites_append h _ (by omega), romWrites, if_pos rfl, hrow, Nat.zero_add, padCells_eq_writeRun, padLine,
    writeRun_append, List.append_assoc]

theorem romWrites_romOf {lines : List (List Byte)} {last : List Byte}
    (h : ∀ l ∈ lines ++ [last], l.length ≤ 254 ∧ (0x0A : Byte) ∉ l) (pos : Nat) :
    romWrites (romOf lines last) pos 0 = writeRun pos (lines.flatMap padLine ++ last) := by
  induction lines generalizing pos with
  | nil =>
    obtain ⟨hlen, hnl⟩ := h last (by simp)
    have := romWrites_append hnl [] (col := 0) (by omega) pos
    simpa [romOf, romWrites] using this
  | cons l lines ih =>
    obtain ⟨⟨hlen, hnl⟩, hlines⟩ := List.forall_mem_cons.1 h
    rw [romOf_cons, romWrites_line hnl hlen, ih hlines, List.flatMap_cons, List.append_assoc,
      writeRun_append pos (padLine l), length_padLine hlen]

/-! ### The cells after the writes -/

/-- A LOAD_WRITE sets its own cell; one outside the grid is that of no cell. -/
theorem memRead_loadStep (w : Host.Cell) (s : State) (a : Fin 32768) :
    memRead (if h : w.1 < 32768 then loadWrite ⟨w.1, h⟩ w.2 s else s) a =
      if a.val = w.1 then w.2 else memRead s a := by
  split
  · next h => simpa only [Fin.ext_iff, loadWrite] using memRead_memWrite s ⟨w.1, h⟩ a w.2
  · rw [if_neg (by omega)]

theorem memRead_writeRun (bytes : List Byte) (pos : Nat) (s : State) (a : Fin 32768) :
    memRead (applyWrites (writeRun pos bytes) s) a =
      if pos ≤ a.val then bytes.getD (a.val - pos) (memRead s a) else memRead s a := by
  induction bytes generalizing pos s with
  | nil => simp [writeRun, applyWrites]
  | cons b bytes ih =>
    rw [writeRun_cons, applyWrites, List.foldl_cons, ← applyWrites, ih, memRead_loadStep]
    rcases Nat.lt_trichotomy a.val pos with hlt | heq | hgt
    · rw [if_neg (by omega), if_neg (by omega), if_neg (by omega)]
    · rw [if_neg (by omega), if_pos heq, if_pos heq.ge, heq, Nat.sub_self, List.getD_cons_zero]
    · have hidx : a.val - pos = a.val - (pos + 1) + 1 := by omega
      rw [if_pos (by omega), if_neg (by omega), if_pos hgt.le, hidx, List.getD_cons_succ]

theorem getD_padLine (l : List Byte) (x : Nat) : (padLine l).getD x 0 = l.getD x 0 := by
  rcases Nat.lt_or_ge x l.length with h | h
  · exact List.getD_append l _ 0 x h
  · rw [padLine, List.getD_append_right l _ 0 x h, List.getD_eq_default l 0 h,
      List.getD_eq_getElem?_getD, List.getElem?_getD_replicate_default_eq]

/-- The byte in column `x` of row `y` of the padded lines. -/
theorem getD_flatMap_padLine {lines : List (List Byte)} {last : List Byte}
    (h : ∀ l ∈ lines ++ [last], l.length ≤ 254) {x : Nat} (hx : x < 256) (y : Nat) :
    (lines.flatMap padLine ++ last).getD (y * 256 + x) 0 = ((lines ++ [last]).getD y []).getD x 0 := by
  induction lines generalizing y with
  | nil =>
    have hlast := h last (by simp)
    cases y with
    | zero => simp
    | succ y =>
      rw [List.flatMap_nil, List.nil_append, List.nil_append, List.getD_eq_default _ _ (by omega)]
      rfl
  | cons l lines ih =>
    obtain ⟨hl, hlines⟩ := List.forall_mem_cons.1 h
    have hrow := length_padLine hl
    rw [List.flatMap_cons, List.append_assoc, List.cons_append]
    cases y with
    | zero =>
      rw [List.getD_append _ _ _ _ (by omega), List.getD_cons_zero, Nat.zero_mul, Nat.zero_add, getD_padLine]
    | succ y =>
      have hidx : (y + 1) * 256 + x - 256 = y * 256 + x := by omega
      rw [List.getD_append_right _ _ _ _ (by omega), hrow, hidx, List.getD_cons_succ, ih hlines]

/-! ### LoadROM -/

/-- 20_memory.md R47: such a file is well formed, so its writes are those of the reference loader. -/
theorem romImage_romOf {lines : List (List Byte)} {last : List Byte} (hlines : lines.length ≤ 128)
    (hlast : last ≠ [] → lines.length ≤ 127) (h : ∀ l ∈ lines ++ [last], l.length ≤ 254 ∧ (0x0A : Byte) ∉ l) :
    romImage (romOf lines last) = writeRun 0 (lines.flatMap padLine ++ last) := by
  have hrom : romLines (romOf lines last) = lines ++ if last = [] then [] else [last] :=
    romLines_romOf fun l hl => (h l hl).2
  have hcount : (romLines (romOf lines last)).length ≤ 128 := by
    rw [hrom, List.length_append]
    split
    · simpa using hlines
    · next hne => exact Nat.succ_le_succ (hlast hne)
  have hshort : ∀ l ∈ romLines (romOf lines last), l.length ≤ 254 := by
    intro l hl
    rw [hrom] at hl
    refine (h l ?_).1
    split at hl
    · exact List.mem_append_left [last] (by simpa using hl)
    · exact hl
  have hwf : romWellFormed (romOf lines last) = true := by
    simpa [romWellFormed, hcount] using hshort
  rw [romImage, if_neg (by omega), if_pos hwf, romWrites_romOf h]

/-- Settles O53: the cell (x, y) is the byte 256 * y + x of the image, and the scan after the writes keeps the grid. -/
theorem loaderPlacesLines : Obligations.LoaderPlacesLines := by
  intro s lines last hgrid hlines hlast h x y hx hy
  have haddr : (gridAddr x y).val = y * 256 + x := by
    have hval := gridAddr_val x y
    omega
  have hzero : memRead s (gridAddr x y) = 0 := by
    rw [memRead, hgrid, cellRead_nil]
  rw [loadRom, memRead_congr (labelScan_grid _), romImage_romOf hlines hlast h, memRead_writeRun,
    if_pos (Nat.zero_le _), Nat.sub_zero, haddr, hzero, getD_flatMap_padLine (fun l hl => (h l hl).1) hx]

end Sys2Proof.Machine
end

section
/-! The host's moves under the load protocol. -/

namespace Sys2Proof.Machine

/-! ### The phases -/

theorem mayLoad_iff (p : Phase) : mayLoad p = true ↔ p = .initialised ∨ p = .loading := by
  cases p <;> decide

theorem mayStep_iff (p : Phase) : mayStep p = true ↔ p = .initialised ∨ p = .loaded ∨ p = .running := by
  cases p <;> decide

theorem mayObserve_iff (p : Phase) : mayObserve p = true ↔ p ≠ .powerOn := by
  cases p <;> decide

variable {z : Session}

theorem allowed_of_true {ok : Bool} (h : ok = true) (z : Session) (r : HostReply) : allowed ok z r = .next (z, r) :=
  if_pos h

theorem allowed_of_not {ok : Bool} (h : ¬ ok = true) (z : Session) (r : HostReply) :
    allowed ok z r = .refused .hostOutOfTurn :=
  if_neg h

/-! ### The moves -/

theorem hostMove_fbRead_of_some {i : BitVec 12} {b : Byte} (h : fbReadView i z.block = some b) :
    hostMove (.fbRead i) z = allowed (mayObserve z.phase) z (.cell b) := by
  rw [hostMove, h]

theorem hostMove_fbRead_of_none {i : BitVec 12} (h : fbReadView i z.block = none) :
    hostMove (.fbRead i) z = .refused .fbIndexOutsideView := by
  rw [hostMove, h]

theorem hostMove_step_of_stopped (hp : mayStep z.phase = true) (h : z.block.fault = true ∨ z.block.shutdown = true) :
    hostMove .step z = .next (⟨z.block, .running⟩, .stepErr (errBits z.block.err)) := by
  rw [hostMove, allowed_of_true hp, hostStep_of_stopped h]

theorem hostMove_step_of_enabled (hp : mayStep z.phase = true) (hf : z.block.fault = false)
    (hs : z.block.shutdown = false) :
    ∃ t, step z.block = .next t ∧ hostMove .step z = .next (⟨t, .running⟩, .stepErr (errBits t.err)) := by
  obtain ⟨t, ht⟩ := step_next_of_enabled hf hs
  refine ⟨t, ht, ?_⟩
  rw [hostMove, allowed_of_true hp, hostStep_of_next ht]

/-- 70_reset_and_hazards.md R115: before the first INIT there is no other move. -/
theorem hostMove_refused_of_powerOn (h : z.phase = .powerOn) {m : HostMove} (hm : m ≠ .init) :
    ∃ r, hostMove m z = .refused r := by
  cases m
  case init => exact absurd rfl hm
  case fbRead i =>
    cases hview : fbReadView i z.block with
    | some b => exact ⟨_, (hostMove_fbRead_of_some hview).trans (by rw [h]; rfl)⟩
    | none => exact ⟨_, hostMove_fbRead_of_none hview⟩
  all_goals exact ⟨.hostOutOfTurn, by rw [hostMove, h]; rfl⟩

/-- Settles O56: the moves of the three groups of phases, and those refused. -/
theorem hostKeepsTheLoadProtocol : Obligations.HostKeepsTheLoadProtocol := by
  refine fun z => ⟨rfl, fun hp => ?_, fun hp hp' => ?_, fun hp => ?_, fun hp hp' hp'' => ?_, fun hp => ?_,
    fun i => hostMove_fbRead_of_none, fun hp m => hostMove_refused_of_powerOn hp⟩
  · have hload := (mayLoad_iff z.phase).2 hp
    exact ⟨fun _ _ => allowed_of_true hload _ _, allowed_of_true hload _ _, allowed_of_true hload _ _⟩
  · have hload := (mayLoad_iff z.phase).not.2 (not_or.2 ⟨hp, hp'⟩)
    exact ⟨fun _ _ => allowed_of_not hload _ _, allowed_of_not hload _ _, allowed_of_not hload _ _⟩
  · have hstep := (mayStep_iff z.phase).2 hp
    exact ⟨hostMove_step_of_enabled hstep, hostMove_step_of_stopped hstep⟩
  · have hstep := (mayStep_iff z.phase).not.2 (by tauto)
    exact allowed_of_not hstep _ _
  · have hobserve := (mayObserve_iff z.phase).2 hp
    exact ⟨fun i b hview => (hostMove_fbRead_of_some hview).trans (allowed_of_true hobserve _ _),
      allowed_of_true hobserve _ _, allowed_of_true hobserve _ _, fun _ => allowed_of_true hobserve _ _⟩

end Sys2Proof.Machine
end
